-- ==== Sys2Proof/Word.lean ====
section
/-! DEFINITION. The words of the block (00_scope.md R8, R10): bytes, command words, 32-bit registers, pin ids,
instance indices and the two logical line levels. -/

namespace Sys2Proof

/-- One byte: a buffer slot, a byte of the command stream, a character. -/
abbrev Byte := BitVec 8

/-- A 16-bit command word (R48). -/
abbrev Half := BitVec 16

/-- A 32-bit register: `cp`, `now`, `res`, `tmo[i]` (R12, R22, R24, R15). -/
abbrev Word := BitVec 32

/-- An 8-bit pin id (R14). -/
abbrev PinId := BitVec 8

/-- An instance index: the 3-bit INST field (R48). Which indices exist is the parameter `N_INST` (R6). -/
abbrev InstId := Fin 8

/-- A logical line level, `SPACE = 0` and `MARK = 1` (R10). -/
inductive Level where
  | space
  | mark
deriving DecidableEq, Repr, Inhabited

/-- Every instance index, in order: what "for each instance i" ranges over. -/
def allInst : List InstId := [0, 1, 2, 3, 4, 5, 6, 7]

end Sys2Proof
end

