-- ==== Sys2Proof/Syntax.lean ====
section
/-! DEFINITION. The commands of the block (30_encoding.md R50), one constructor per row of the opcode table; the
four formats (R48); the fault causes (60_exceptions.md R102); the pseudo-instructions (R55). -/

namespace Sys2Proof

/-- The host commands. `i` is INST, an unsigned instance index (R49). -/
inductive Instr where
  /-- BEGIN: enable instance i on its current pin (R60). -/
  | beginInst (i : InstId)
  /-- BEGIN_PIN: set the data pin, then enable (R61). -/
  | beginPin (i : InstId) (p : PinId)
  /-- END: disable instance i (R62). -/
  | endInst (i : InstId)
  /-- FORCE_HOLD (R63). -/
  | forceHold (i : InstId)
  /-- FORCE_LISTEN (R64). -/
  | forceListen (i : InstId)
  /-- SET_ACTIVE (R86). -/
  | setActive (i : InstId)
  /-- IS_ACTIVE (R87). -/
  | isActive (i : InstId)
  /-- GET_DATA_PIN (R88). -/
  | getDataPin (i : InstId)
  /-- SET_TIMEOUT with its 32-bit signed operand word (R89). -/
  | setTimeout (i : InstId) (v : Word)
  /-- GET_TIMEOUT (R90). -/
  | getTimeout (i : InstId)
  /-- AVAILABLE (R80). -/
  | available (i : InstId)
  /-- PEEK (R81). -/
  | peek (i : InstId)
  /-- READ (R82). -/
  | read (i : InstId)
  /-- CLEAR_BUFFER (R83). -/
  | clearBuffer (i : InstId)
  /-- GET_OVERFLOW (R84). -/
  | getOverflow (i : InstId)
  /-- WRITE one character (R94). -/
  | write (i : InstId) (c : Byte)
  /-- SEND_COMMAND: wake sequence, then the text (R95). -/
  | sendCommand (i : InstId) (text : List Byte)
  /-- SEND_RESPONSE: leading marking, then the text (R96). -/
  | sendResponse (i : InstId) (text : List Byte)
deriving DecidableEq, Repr

/-- The formats of R48. -/
inductive Format where
  | n
  | i
  | w
  | t
deriving DecidableEq, Repr

/-- The causes of a recorded fault, codes 1 to 8 of R102; code 0 is "no fault" and 9..255 are never raised. -/
inductive Cause where
  /-- F_TRUNC: the stream ends inside a command. -/
  | trunc
  /-- F_OPCODE: a reserved OP. -/
  | opcode
  /-- F_FIELD: IMM8 is not 0 in format N or W. -/
  | field
  /-- F_INST: INST >= N_INST. -/
  | inst
  /-- F_STATE: not legal in this line state. -/
  | state
  /-- F_ACTIVE_TX: SET_ACTIVE while another instance transmits. -/
  | activeTx
  /-- F_PIN: a pin >= N_PINS. -/
  | pin
  /-- F_PIN_IN_USE: a pin of another enabled instance. -/
  | pinInUse
deriving DecidableEq, Repr

/-- The pseudo-instructions of R55; their expansions are `Pseudo.expand`. -/
inductive Pseudo where
  | init (i : InstId) (p : PinId)
  | listen (i : InstId)
  | hold (i : InstId)
deriving DecidableEq, Repr

end Sys2Proof
end

