-- ==== Sys2Proof/WellFormed.lean ====
section
/-! DEFINITION. The checks an instruction passes before it has an encoding (30_encoding.md R48, R54) and before it
may run on a machine of `nInst` instances (R51). -/

namespace Sys2Proof

/-- The instance an instruction names: its INST field (R48). -/
def Instr.inst : Instr → InstId
  | .beginInst i => i
  | .beginPin i _ => i
  | .endInst i => i
  | .forceHold i => i
  | .forceListen i => i
  | .setActive i => i
  | .isActive i => i
  | .getDataPin i => i
  | .setTimeout i _ => i
  | .getTimeout i => i
  | .available i => i
  | .peek i => i
  | .read i => i
  | .clearBuffer i => i
  | .getOverflow i => i
  | .write i _ => i
  | .sendCommand i _ => i
  | .sendResponse i _ => i

/-- The text bytes of a format T command; none for the other formats. -/
def Instr.text : Instr → List Byte
  | .sendCommand _ t => t
  | .sendResponse _ t => t
  | .beginInst _ => []
  | .beginPin _ _ => []
  | .endInst _ => []
  | .forceHold _ => []
  | .forceListen _ => []
  | .setActive _ => []
  | .isActive _ => []
  | .getDataPin _ => []
  | .setTimeout _ _ => []
  | .getTimeout _ => []
  | .available _ => []
  | .peek _ => []
  | .read _ => []
  | .clearBuffer _ => []
  | .getOverflow _ => []
  | .write _ _ => []

/-- An instruction has an encoding when its text fits LEN, 0..255 (R48, R54: "at most 255"). -/
abbrev Instr.encodable (c : Instr) : Prop := c.text.length ≤ 255

/-- INST names an instance of a machine of `nInst` instances (R49, R51). -/
abbrev Instr.admitted (nInst : Nat) (c : Instr) : Prop := c.inst.val < nInst

/-- Both checks. -/
abbrev Instr.wellFormed (nInst : Nat) (c : Instr) : Prop := c.encodable ∧ c.admitted nInst

end Sys2Proof
end

