-- ==== Sys2Proof/Decode.lean ====
section
/-! DEFINITION. The decoder of the command stream (30_encoding.md R47, R51, in the order of 60_exceptions.md R104),
total on any bytes and rejecting by the fault's name, and after it the encoder, written from the same tables
(R48, R49, R50). -/

namespace Sys2Proof

/-- Why the decoder rejects a command: the cause, and the command word to record (R51). -/
structure Reject where
  cause : Cause
  cw : Half
deriving DecidableEq, Repr

/-- A 16-bit word of the stream from its bytes, lowest offset first: little-endian (R35, R47). -/
def half (b0 b1 : Byte) : Half := b1 ++ b0

/-- A 32-bit word of the stream from its bytes, lowest offset first: little-endian (R35, R47). -/
def word (b0 b1 b2 b3 : Byte) : Word := b3 ++ b2 ++ b1 ++ b0

/-- OP, bits 15:11 of the command word (R48). -/
def opField (cw : Half) : BitVec 5 := cw.extractLsb' 11 5

/-- INST, bits 10:8 (R48). -/
def instField (cw : Half) : InstId := (cw.extractLsb' 8 3).toFin

/-- IMM8, bits 7:0 (R48). -/
def immField (cw : Half) : Byte := cw.extractLsb' 0 8

/-- Format N: IMM8 must be 0 (R48, R51). -/
def formatN (cw : Half) (c : Instr) : Except Reject Instr :=
  if immField cw = 0 then .ok c else .error ⟨.field, cw⟩

/-- Format W: four operand bytes, else F_TRUNC; then IMM8 must be 0 (R47, R104: truncation before the field). -/
def formatW (cw : Half) (rest : List Byte) (c : Word → Instr) : Except Reject Instr :=
  match rest with
  | b0 :: b1 :: b2 :: b3 :: _ => if immField cw = 0 then .ok (c (word b0 b1 b2 b3)) else .error ⟨.field, cw⟩
  | _ => .error ⟨.trunc, cw⟩

/-- Format T: LEN = IMM8 text bytes, else F_TRUNC (R47). -/
def formatT (cw : Half) (rest : List Byte) (c : List Byte → Instr) : Except Reject Instr :=
  if rest.length < (immField cw).toNat then .error ⟨.trunc, cw⟩ else .ok (c (rest.take (immField cw).toNat))

/-- The opcode map of R50, on the command word and the bytes after it; a reserved OP is F_OPCODE (R51). -/
def decodeWord (cw : Half) (rest : List Byte) : Except Reject Instr :=
  match (opField cw).toNat with
  | 0x01 => formatN cw (.beginInst (instField cw))
  | 0x02 => .ok (.beginPin (instField cw) (immField cw))
  | 0x03 => formatN cw (.endInst (instField cw))
  | 0x04 => formatN cw (.forceHold (instField cw))
  | 0x05 => formatN cw (.forceListen (instField cw))
  | 0x06 => formatN cw (.setActive (instField cw))
  | 0x07 => formatN cw (.isActive (instField cw))
  | 0x08 => formatN cw (.getDataPin (instField cw))
  | 0x09 => formatW cw rest (.setTimeout (instField cw))
  | 0x0A => formatN cw (.getTimeout (instField cw))
  | 0x0B => formatN cw (.available (instField cw))
  | 0x0C => formatN cw (.peek (instField cw))
  | 0x0D => formatN cw (.read (instField cw))
  | 0x0E => formatN cw (.clearBuffer (instField cw))
  | 0x0F => formatN cw (.getOverflow (instField cw))
  | 0x10 => .ok (.write (instField cw) (immField cw))
  | 0x11 => formatT cw rest (.sendCommand (instField cw))
  | 0x12 => formatT cw rest (.sendResponse (instField cw))
  | _ => .error ⟨.opcode, cw⟩

/-- The command at the front of the bytes left in the stream (R47). With one byte left the command word is
recorded as 0 (R51). With none HOST has no step, so the machine never asks (R47); the answer is the same. -/
def decode : List Byte → Except Reject Instr
  | b0 :: b1 :: rest => decodeWord (half b0 b1) rest
  | _ => .error ⟨.trunc, 0⟩

/-- The bits of an instruction laid out as the stream stores them: `nbits` bits of `w`, the least significant byte
first, then zeros up to the longest instruction, 2 + 255 bytes (R35, R48). -/
def tableBytes (nbits w : Nat) : List Byte :=
  (List.range (nbits / 8)).map (fun k => BitVec.ofNat 8 (w / 2 ^ (8 * k))) ++ List.replicate (257 - nbits / 8) 0

/-- The instruction this decoder reads from an opcode-table row's bits. -/
def decodeTableWord (nbits w : Nat) : Option Instr :=
  match decode (tableBytes nbits w) with
  | .ok c => some c
  | .error _ => none

/-! ### The encoder -/

/-- The operation code of R50. -/
def Instr.opcode : Instr → BitVec 5
  | .beginInst _ => 0x01
  | .beginPin _ _ => 0x02
  | .endInst _ => 0x03
  | .forceHold _ => 0x04
  | .forceListen _ => 0x05
  | .setActive _ => 0x06
  | .isActive _ => 0x07
  | .getDataPin _ => 0x08
  | .setTimeout _ _ => 0x09
  | .getTimeout _ => 0x0A
  | .available _ => 0x0B
  | .peek _ => 0x0C
  | .read _ => 0x0D
  | .clearBuffer _ => 0x0E
  | .getOverflow _ => 0x0F
  | .write _ _ => 0x10
  | .sendCommand _ _ => 0x11
  | .sendResponse _ _ => 0x12

/-- The format of each command (R50). -/
def Instr.format : Instr → Format
  | .beginInst _ => .n
  | .beginPin _ _ => .i
  | .endInst _ => .n
  | .forceHold _ => .n
  | .forceListen _ => .n
  | .setActive _ => .n
  | .isActive _ => .n
  | .getDataPin _ => .n
  | .setTimeout _ _ => .w
  | .getTimeout _ => .n
  | .available _ => .n
  | .peek _ => .n
  | .read _ => .n
  | .clearBuffer _ => .n
  | .getOverflow _ => .n
  | .write _ _ => .i
  | .sendCommand _ _ => .t
  | .sendResponse _ _ => .t

/-- IMM8: the pin id of BEGIN_PIN, the character of WRITE, LEN in format T, 0 in formats N and W (R48, R49). -/
def Instr.imm : Instr → Byte
  | .beginInst _ => 0
  | .beginPin _ p => p
  | .endInst _ => 0
  | .forceHold _ => 0
  | .forceListen _ => 0
  | .setActive _ => 0
  | .isActive _ => 0
  | .getDataPin _ => 0
  | .setTimeout _ _ => 0
  | .getTimeout _ => 0
  | .available _ => 0
  | .peek _ => 0
  | .read _ => 0
  | .clearBuffer _ => 0
  | .getOverflow _ => 0
  | .write _ c => c
  | .sendCommand _ t => BitVec.ofNat 8 t.length
  | .sendResponse _ t => BitVec.ofNat 8 t.length

/-- `{OP, INST, IMM8}` (R48). -/
def commandWord (op : BitVec 5) (i : InstId) (m : Byte) : Half := op ++ BitVec.ofNat 3 i.val ++ m

/-- The command word of an instruction (R50): also what a fault of it records as `fault_cw` (R103). -/
def Instr.cw (c : Instr) : Half := commandWord c.opcode c.inst c.imm

/-- The two bytes of a command word, low byte first (R35). -/
def halfBytes (h : Half) : List Byte := [h.extractLsb' 0 8, h.extractLsb' 8 8]

/-- The four bytes of an operand word, low byte first (R35). -/
def wordBytes (w : Word) : List Byte :=
  [w.extractLsb' 0 8, w.extractLsb' 8 8, w.extractLsb' 16 8, w.extractLsb' 24 8]

/-- The bytes after the command word (R48): the operand word of SET_TIMEOUT, the text of format T. -/
def Instr.operandBytes : Instr → List Byte
  | .setTimeout _ v => wordBytes v
  | .sendCommand _ t => t
  | .sendResponse _ t => t
  | .beginInst _ => []
  | .beginPin _ _ => []
  | .endInst _ => []
  | .forceHold _ => []
  | .forceListen _ => []
  | .setActive _ => []
  | .isActive _ => []
  | .getDataPin _ => []
  | .getTimeout _ => []
  | .available _ => []
  | .peek _ => []
  | .read _ => []
  | .clearBuffer _ => []
  | .getOverflow _ => []
  | .write _ _ => []

/-- The bytes of an instruction in the stream (R47, R48). -/
def encode (c : Instr) : List Byte := halfBytes c.cw ++ c.operandBytes

/-- The length of a command in bytes (R48): from OP alone in formats N, I and W, from OP and LEN in format T (R52). -/
def Instr.length (c : Instr) : Nat :=
  match c.format with
  | .n => 2
  | .i => 2
  | .w => 6
  | .t => 2 + c.text.length

end Sys2Proof
end

