-- ==== Sys2Proof/Config.lean ====
section
/-! DEFINITION. What is fixed for a run (00_scope.md R6) and what the spec leaves open: the parameters, their
ranges and defaults, the inputs a step may take from outside, and the free values, constants without a body. -/

namespace Sys2Proof

/-- `CAP`, the capacity of the Shared Receive Buffer: 75 (R6, R17). -/
def cap : Nat := 75

/-- The implementation parameters of R6 (`CAP`, `DATA_BITS` and `TW` are fixed and stand in the types).
A machine keeps the record it was reset with: no step writes it (log 1). -/
structure Params where
  /-- `N_INST`: the instances are `0 .. nInst - 1`. -/
  nInst : Nat
  /-- `N_PINS`: the pins are `0 .. nPins - 1`. -/
  nPins : Nat
  /-- `PIN_INIT[i]`: the data pin instance i is constructed with (R14). -/
  pinInit : Vector PinId 8
  /-- `BIT_TICKS`: one bit period. -/
  bitTicks : Nat
  /-- `BREAK_TICKS`: the break of the wake sequence. -/
  breakTicks : Nat
  /-- `WAKE_MARK_TICKS`: the marking after the break. -/
  wakeMarkTicks : Nat
  /-- `RESP_MARK_TICKS`: the marking before a response. -/
  respMarkTicks : Nat
  /-- `NET`, as the pins whose net is not their own number, each with its net; an unlisted pin is its own net.
  Every function on pin ids is such a list, and `[]` is R6's default, the identity. -/
  wiring : List (Nat × Nat)
  /-- `PULL_LEVEL`: the level of a net nobody drives. -/
  pullLevel : Level
  /-- `TIMEOUT_INIT`: the reset value of every timeout register; OPEN. -/
  timeoutInit : Word
deriving DecidableEq, Repr

/-- The ranges of R6. The upper bound 2^32 on the three durations is log 11's: `tx_left` has 32 bits (R20). -/
abbrev Params.ok (p : Params) : Prop :=
  (1 ≤ p.nInst ∧ p.nInst ≤ 8) ∧ (1 ≤ p.nPins ∧ p.nPins ≤ 256) ∧
  (2 ≤ p.bitTicks ∧ p.bitTicks ≤ 429496728) ∧ (1 ≤ p.breakTicks ∧ p.breakTicks < 2 ^ 32) ∧
  p.wakeMarkTicks < 2 ^ 32 ∧ p.respMarkTicks < 2 ^ 32

/-- What ENV does to one net in one tick (20_memory.md R41): RELEASE or DRIVE v. -/
inductive Drive where
  | release
  | drive (v : Level)
deriving DecidableEq, Repr, Inhabited

/-- The draws of one tick (R41): `ext(n)` for the listed nets, RELEASE for the others; the outcome of a contention
on the listed nets, MARK on the others. Every assignment to the nets is such a pair of lists (log 6). -/
structure Draw where
  ext : List (Nat × Drive) := []
  contention : List (Nat × Level) := []
deriving DecidableEq, Repr, Inhabited

/-- What the outside decides about one step of the block (70_reset_and_hazards.md R121): whether HOST may go, and
ENV's draws for the tick that runs if it does not (log 5). -/
structure Input where
  hostTurn : Bool
  draw : Draw := {}
deriving DecidableEq, Repr, Inhabited

/-- FREE VALUE. `TIMEOUT_INIT` of the machine `State.reset`: OPEN in the spec (R15, decision D35; log 3). -/
opaque Config.timeoutInit : Word

/-- FREE VALUE. What slot k holds after reset: "unspecified: any value" (R17; log 4). -/
opaque Config.slotInit : Nat → Byte

/-- FREE VALUE. The k-th input of a run whose state lists none: any interleaving, any draws (R121, R41; log 5). -/
opaque Config.freeInput : Nat → Input

/-- The parameters of the machine `State.reset`: R6's defaults where it has one; `N_INST`, `N_PINS` and `PIN_INIT`
are DESIGN CHOICES (log 2). Statements are about every `Params`, not this one. -/
def Config.params : Params where
  nInst := 8
  nPins := 256
  pinInit := #v[0, 1, 2, 3, 4, 5, 6, 7]
  bitTicks := 833
  breakTicks := 12000
  wakeMarkTicks := 8330
  respMarkTicks := 8330
  wiring := []
  pullLevel := .mark
  timeoutInit := Config.timeoutInit

end Sys2Proof
end

