-- ==== Sys2Proof/Machine/State.lean ====
section
/-! DEFINITION. The state of the block (10_state.md), plain data; the reasons a step can stop; the state after
reset (70_reset_and_hazards.md R118). -/

namespace Sys2Proof.Machine

/-- The line state of an instance, codes 0..4 in this order (R13). -/
inductive LineState where
  | disabled
  | enabled
  | holding
  | transmitting
  | listening
deriving DecidableEq, Repr, Inhabited

/-- One segment of a transmission: a level and how many ticks it is driven (R20). -/
structure Seg where
  level : Level
  ticks : Nat
deriving DecidableEq, Repr

/-- The registers of one instance (R11): line state, data pin, parse-timeout value (R13, R14, R15). -/
structure InstRegs where
  st : LineState
  pin : PinId
  tmo : Word
deriving DecidableEq, Repr

/-- The buffer slots written since reset, as (slot, byte) pairs in rising order of the slot (R17, R31(a)). -/
abbrev Memory := List Host.Cell

/-- The whole machine. The first line of each field's comment is the rule that names it. -/
structure State where
  /-- R6: the parameters; the model's own field, written by no step (log 1). -/
  cfg : Params
  /-- R13, R14, R15: `st[i]`, `pin[i]`, `tmo[i]`; the slots at `N_INST` and above do not exist (log 12). -/
  insts : Vector InstRegs 8
  /-- R16: the Active-Instance Registry; `none` is NONE. -/
  reg : Option InstId
  /-- R17: the slots of the Shared Receive Buffer. -/
  slots : Memory
  /-- R17: next slot to fill. -/
  head : Fin 75
  /-- R17: next slot to drain. -/
  tail : Fin 75
  /-- R17: the number of bytes held, 0..CAP. -/
  count : Fin 76
  /-- R18: the sticky overflow flag. -/
  ovf : Bool
  /-- R19: assembly in progress. -/
  rxBusy : Bool
  /-- R19: the number of samples taken, 0..8 between steps. -/
  rxN : Fin 9
  /-- R19: bit k holds sample k. -/
  rxPat : BitVec 9
  /-- R19: the tick of the start edge. -/
  rxT0 : Word
  /-- R20: a transmission is in progress. -/
  txBusy : Bool
  /-- R20: the transmitting instance. -/
  txInst : InstId
  /-- R20: the segments still to drive, the head being driven. -/
  txSegs : List Seg
  /-- R20: the ticks remaining in the head segment. -/
  txLeft : Word
  /-- R98: the length in bytes of the transmit command in progress; the model's own field (log 10). -/
  txLen : Nat
  /-- R21: the level each pin 0..N_PINS-1 had in the previous tick. -/
  prev : List Level
  /-- R22: the tick counter. -/
  now : Word
  /-- R23: the recorded fault; `none` is code 0. -/
  fault : Option Cause
  /-- R23: the command word that raised it. -/
  faultCw : Half
  /-- R23: the `cp` of that command. -/
  faultCp : Word
  /-- R31(c), R47: the command stream `S`. -/
  stream : List Byte
  /-- R12: the command pointer, an offset into `stream`. -/
  cp : Word
  /-- R24: the result word of the last completed command. -/
  res : Word
  /-- R24: every result word, in command order. -/
  reslog : List Word
  /-- R121, R41: the schedule and ENV's draws still to come; the model's own field (log 5). -/
  inputs : List Input
  /-- The counter the free inputs are drawn by; the model's own field (log 5). -/
  drawIndex : Nat
deriving DecidableEq, Repr

/-- Why a step stops. -/
inductive Fault where
  /-- The block is halted (R103: "After a fault, no agent has a step"; 93_implementation_defined.md I16: stuck).
  Raised by `step` alone, in a state whose `fault` is recorded. Safe: the hardware has no step there either. -/
  | halted
deriving DecidableEq, Repr

/-- Why an instruction has no meaning. -/
inductive Refusal where
  /-- An instruction without a meaning yet, by its mnemonic. Raised by no arm of this model. Safe. -/
  | notModelled (mnemonic : String)
deriving DecidableEq, Repr

/-- What a step and a command answer. -/
abbrev Result := Host.Outcome State Fault Refusal

/-- An instance as constructed: DISABLED, on its construction pin, with the initial timeout value (R118). -/
def InstRegs.reset (p : Params) (i : InstId) : InstRegs where
  st := .disabled
  pin := p.pinInit[i]
  tmo := p.timeoutInit

/-- The block with parameters `p` right after reset (R118), with the command stream `prog` in place (R119). -/
def State.resetWith (p : Params) (prog : List Byte) : State where
  cfg := p
  insts := #v[InstRegs.reset p 0, InstRegs.reset p 1, InstRegs.reset p 2, InstRegs.reset p 3,
    InstRegs.reset p 4, InstRegs.reset p 5, InstRegs.reset p 6, InstRegs.reset p 7]
  reg := none
  slots := []
  head := 0
  tail := 0
  count := 0
  ovf := false
  rxBusy := false
  rxN := 0
  rxPat := 0
  rxT0 := 0
  txBusy := false
  txInst := 0
  txSegs := []
  txLeft := 0
  txLen := 0
  prev := List.replicate p.nPins p.pullLevel
  now := 0
  fault := none
  faultCw := 0
  faultCp := 0
  stream := prog
  cp := 0
  res := 0
  reslog := []
  inputs := []
  drawIndex := 0

/-- The block right after reset, with `Config.params` (log 2) and no command stream yet: a program comes from
outside the machine (log 8). -/
def State.reset : State := State.resetWith Config.params []

end Sys2Proof.Machine
end

