-- ==== Sys2Proof/Machine/Flags.lean ====
section
/-! DEFINITION. The bits, codes and predicates the rules compute from the state: level bits (R10), register codes
(R13, R16, R102), even parity (R67), the derived predicates (R26 to R29) and the host's readiness (R121). -/

namespace Sys2Proof.Machine

/-- The bit of a level: MARK = 1, SPACE = 0 (R10). -/
def levelBit : Level → Bool
  | .space => false
  | .mark => true

/-- The level of a bit: 1 is sent as MARK, 0 as SPACE (R91). -/
def bitLevel (b : Bool) : Level := if b then .mark else .space

/-- The 3-bit code of a line state (R13). -/
def lineStateCode : LineState → BitVec 3
  | .disabled => 0
  | .enabled => 1
  | .holding => 2
  | .transmitting => 3
  | .listening => 4

/-- The 4-bit value of the registry; NONE is 0xF (R16). -/
def regCode : Option InstId → BitVec 4
  | none => 0xF
  | some i => BitVec.ofNat 4 i.val

/-- The code of a fault cause (R102). -/
def causeCode : Cause → Byte
  | .trunc => 1
  | .opcode => 2
  | .field => 3
  | .inst => 4
  | .state => 5
  | .activeTx => 6
  | .pin => 7
  | .pinInUse => 8

/-- The 8-bit register `fault`; 0 is no fault (R23). -/
def faultCode : Option Cause → Byte
  | none => 0
  | some c => causeCode c

/-- The even-parity bit of 7 data bits (R67). -/
def parity7 (d : BitVec 7) : Bool :=
  d.getLsbD 0 ^^ d.getLsbD 1 ^^ d.getLsbD 2 ^^ d.getLsbD 3 ^^ d.getLsbD 4 ^^ d.getLsbD 5 ^^ d.getLsbD 6

/-- Whether a received parity bit is the even-parity bit of the data (R67). -/
def parityOK (d : BitVec 7) (p : Bool) : Bool := parity7 d == p

/-- Instance i exists: `i < N_INST` (R6). -/
def instExists (s : State) (i : InstId) : Bool := Nat.blt i.val s.cfg.nInst

/-- Pin p exists: `p < N_PINS` (R6). -/
def pinExists (s : State) (p : PinId) : Bool := Nat.blt p.toNat s.cfg.nPins

/-- `st[i]` (R13). -/
def State.st (s : State) (i : InstId) : LineState := (s.insts[i]).st

/-- `pin[i]` (R14). -/
def State.pin (s : State) (i : InstId) : PinId := (s.insts[i]).pin

/-- `tmo[i]` (R15). -/
def State.tmo (s : State) (i : InstId) : Word := (s.insts[i]).tmo

/-- `armed(i)`: the pin-change interrupt of instance i reaches the receiver (R26). -/
def armed (s : State) (i : InstId) : Bool := s.reg == some i && s.st i == .listening

/-- `sens(i)` (R27). -/
def sens (s : State) (i : InstId) : Bool := s.st i != .disabled

/-- `drives(i)` (R28). -/
def drives (s : State) (i : InstId) : Bool := s.st i == .holding || s.st i == .transmitting

/-- `txen(i)`, the transmit-enable output of instance i (R28, R114). -/
def txen (s : State) (i : InstId) : Bool := drives s i

/-- `halted`: a fault is recorded (R29). -/
def halted (s : State) : Bool := s.fault.isSome

/-- `host_busy` (R29). -/
def hostBusy (s : State) : Bool := s.txBusy

/-- HOST has a step: not halted, no transmission in progress, and a command left (R121). -/
def hostEnabled (s : State) : Bool := !halted s && !hostBusy s && Nat.blt s.cp.toNat s.stream.length

/-- Some other enabled instance owns pin p: `exists j != i: st[j] != DISABLED and pin[j] = p` (R60). -/
def pinInUse (s : State) (i : InstId) (p : PinId) : Bool :=
  allInst.any (fun j => instExists s j && j != i && s.st j != .disabled && s.pin j == p)

end Sys2Proof.Machine
end

