-- ==== Sys2Proof/Machine/Operands.lean ====
section
/-! DEFINITION. Operands in and result words out: the command at `cp` (30_encoding.md R47), the result words of
R53. -/

namespace Sys2Proof.Machine

/-- The bytes of the stream from `cp` on (R47). -/
def fetchBytes (s : State) : List Byte := s.stream.drop s.cp.toNat

/-- The command at `cp`, or why the decoder rejects it (R47). -/
def fetch (s : State) : Except Reject Instr := decode (fetchBytes s)

/-- A stream with `bytes` written at offset `at_`, in place of what stood there. -/
def placeBytes (stream : List Byte) (at_ : Nat) (bytes : List Byte) : List Byte :=
  stream.take at_ ++ List.replicate (at_ - stream.length) 0 ++ bytes ++ stream.drop (at_ + bytes.length)

/-- The result word of a byte: zero-extended (R53). -/
def byteWord (b : Byte) : Word := b.setWidth 32

/-- The result word of a Boolean: 0 or 1 (R53). -/
def boolWord (b : Bool) : Word := if b then 1 else 0

/-- The result word of a count: unsigned (R53). -/
def countWord (n : Nat) : Word := BitVec.ofNat 32 n

/-- The result word of "none", an empty peek or read (R53). -/
def noneWord : Word := 0xFFFFFFFF

end Sys2Proof.Machine
end

