-- ==== Sys2Proof/Machine/Ops.lean ====
section
/-! DEFINITION. The named operations over registers, buffer slots and the host's registers that the meanings and
the tick share, and the recording of a fault. -/

namespace Sys2Proof.Machine

/-! ### Per-instance registers -/

/-- `st[i] <- v` (R13). -/
def State.setSt (s : State) (i : InstId) (v : LineState) : State :=
  { s with insts := s.insts.set i { s.insts[i] with st := v } }

/-- `pin[i] <- v` (R14). -/
def State.setPin (s : State) (i : InstId) (v : PinId) : State :=
  { s with insts := s.insts.set i { s.insts[i] with pin := v } }

/-- `tmo[i] <- v` (R15). -/
def State.setTmo (s : State) (i : InstId) (v : Word) : State :=
  { s with insts := s.insts.set i { s.insts[i] with tmo := v } }

/-! ### Buffer slots (20_memory.md R32) -/

/-- The byte slot k was given, if it has been written since reset. -/
def Memory.read? : Memory → Nat → Option Byte
  | [], _ => none
  | (a, b) :: m, k => if k = a then some b else Memory.read? m k

/-- Slot k holds v from now on; the rising order is kept. -/
def Memory.write : Memory → Nat → Byte → Memory
  | [], k, v => [(k, v)]
  | (a, b) :: m, k, v =>
    if k < a then (k, v) :: (a, b) :: m else if k = a then (k, v) :: m else (a, b) :: Memory.write m k v

/-- Every slot number is at least `lo`, below CAP, and they rise strictly. -/
def Memory.wfFrom (lo : Nat) : Memory → Bool
  | [] => true
  | (a, _) :: m => decide (lo ≤ a) && decide (a < cap) && Memory.wfFrom (a + 1) m

/-- The canonical form: slot numbers rise strictly and are below CAP. An unlisted slot has no value of its own, so
no entry repeats one (log 4). -/
def Memory.wf (m : Memory) : Bool := Memory.wfFrom 0 m

/-- `MemRead(k, 1)` (R32). A slot nothing has written since reset holds the free value `Config.slotInit k` (R17:
"unspecified: any value"; log 4). -/
def memRead (s : State) (k : Fin 75) : Byte := (Memory.read? s.slots k.val).getD (Config.slotInit k.val)

/-- `MemWrite(k, 1, v)` (R32). -/
def memWrite (s : State) (k : Fin 75) (v : Byte) : State := { s with slots := Memory.write s.slots k.val v }

/-- `(k + 1) mod CAP` (R79, R82). -/
def nextSlot (k : Fin 75) : Fin 75 := ⟨(k.val + 1) % 75, Nat.mod_lt _ (by decide)⟩

/-! ### Faults and completion -/

/-- `raise Fault(code, cw)` (60_exceptions.md R103): the fault is recorded, nothing else changes, and the block is
halted. There is no return from a fault; the interrupt service (R107) neither saves nor restores (R108, R109). -/
def raiseFault (c : Cause) (cw : Half) (s : State) : State :=
  { s with fault := some c, faultCw := cw, faultCp := s.cp }

/-- A command that raises a fault: the next state is the halted one. -/
def raise (c : Cause) (cw : Half) (s : State) : Result := .next (raiseFault c cw s)

/-- A command of `len` bytes completes with result word `w` (R53): `res`, `reslog`, `cp`. -/
def retire (len : Nat) (w : Word) (s : State) : State :=
  { s with res := w, reslog := s.reslog ++ [w], cp := s.cp + BitVec.ofNat 32 len }

/-- `ret w` at the end of a command of `len` bytes. -/
def complete (len : Nat) (w : Word) (s : State) : Result := .next (retire len w s)

/-- The last decode check, `INST >= N_INST : raise Fault(F_INST, cw)` (R51), before a command's own rule. -/
def onInstance (i : InstId) (cw : Half) (s : State) (body : Result) : Result :=
  if instExists s i then body else raise .inst cw s

/-! ### The receive assembly -/

/-- The assembly registers cleared: `rx_busy <- 0; rx_n <- 0; rx_pat <- 0` (R58, R73). -/
def clearAssembly (s : State) : State := { s with rxBusy := false, rxN := 0, rxPat := 0 }

/-- `DropAssembly(i)` (40_line_state.md R58). -/
def dropAssembly (i : InstId) (s : State) : State :=
  if s.reg = some i ∧ s.rxBusy = true then clearAssembly s else s

/-- Instance i leaves its line state for HOLDING or TRANSMITTING: `if st[i] = LISTENING : DropAssembly(i)` (R63, R93). -/
def leaveListening (i : InstId) (s : State) : State := if s.st i = .listening then dropAssembly i s else s

/-! ### The outside -/

/-- What the outside decides about the next step: the first listed input, or a free one (log 5). -/
def nextInput (s : State) : Input :=
  match s.inputs with
  | x :: _ => x
  | [] => Config.freeInput s.drawIndex

/-- The state once that input is taken. -/
def dropInput (s : State) : State :=
  match s.inputs with
  | _ :: xs => { s with inputs := xs }
  | [] => { s with drawIndex := s.drawIndex + 1 }

end Sys2Proof.Machine
end

