-- ==== Sys2Proof/Machine/Buffer.lean ====
section
/-! DEFINITION. The Shared Receive Buffer (42_buffer.md): the receiver's push, and AVAILABLE, PEEK, READ,
CLEAR_BUFFER, GET_OVERFLOW, legal through any existing instance in any state (R78). -/

namespace Sys2Proof.Machine

/-- `Push(v)` (R79): when the buffer is full, v is dropped and the overflow flag set. -/
def push (v : Byte) (s : State) : State :=
  if h : s.count.val < 75 then
    { memWrite s s.head v with head := nextSlot s.head, count := ⟨s.count.val + 1, by omega⟩ }
  else { s with ovf := true }

/-- The buffer without its oldest byte: `tail` and `count` of READ (R82). -/
def dropOldest (s : State) : State :=
  { s with tail := nextSlot s.tail, count := ⟨s.count.val - 1, by have := s.count.isLt; omega⟩ }

/-- The buffer emptied and the overflow flag cleared; the slots keep their contents (R83). -/
def emptyBuffer (s : State) : State := { s with head := 0, tail := 0, count := 0, ovf := false }

/-- AVAILABLE (R80). -/
def execAvailable (i : InstId) (s : State) : Result :=
  onInstance i (Instr.available i).cw s <| complete 2 (countWord s.count.val) s

/-- PEEK (R81). -/
def execPeek (i : InstId) (s : State) : Result :=
  onInstance i (Instr.peek i).cw s <|
    if s.count = 0 then complete 2 noneWord s else complete 2 (byteWord (memRead s s.tail)) s

/-- READ (R82). -/
def execRead (i : InstId) (s : State) : Result :=
  onInstance i (Instr.read i).cw s <|
    if s.count = 0 then complete 2 noneWord s
    else complete 2 (byteWord (memRead s s.tail)) (dropOldest s)

/-- CLEAR_BUFFER (R83). -/
def execClearBuffer (i : InstId) (s : State) : Result :=
  onInstance i (Instr.clearBuffer i).cw s <| complete 2 0 (emptyBuffer s)

/-- GET_OVERFLOW (R84). -/
def execGetOverflow (i : InstId) (s : State) : Result :=
  onInstance i (Instr.getOverflow i).cw s <| complete 2 (boolWord s.ovf) s

end Sys2Proof.Machine
end

