-- ==== Sys2Proof/Machine/LineCommands.lean ====
section
/-! DEFINITION. The Line-State Machine's commands (40_line_state.md): BEGIN, BEGIN_PIN, END, FORCE_HOLD,
FORCE_LISTEN. -/

namespace Sys2Proof.Machine

/-- BEGIN (R60). -/
def execBeginInst (i : InstId) (s : State) : Result :=
  onInstance i (Instr.beginInst i).cw s <|
    if s.st i ≠ .disabled then raise .state (Instr.beginInst i).cw s
    else if pinExists s (s.pin i) = false then raise .pin (Instr.beginInst i).cw s
    else if pinInUse s i (s.pin i) then raise .pinInUse (Instr.beginInst i).cw s
    else complete 2 0 (s.setSt i .enabled)

/-- BEGIN_PIN (R61). -/
def execBeginPin (i : InstId) (p : PinId) (s : State) : Result :=
  onInstance i (Instr.beginPin i p).cw s <|
    if s.st i ≠ .disabled then raise .state (Instr.beginPin i p).cw s
    else if pinExists s p = false then raise .pin (Instr.beginPin i p).cw s
    else if pinInUse s i p then raise .pinInUse (Instr.beginPin i p).cw s
    else complete 2 0 ((s.setPin i p).setSt i .enabled)

/-- What END does to the registry: `if reg = i: DropAssembly(i); reg <- NONE` (R62). -/
def releaseRegistry (i : InstId) (s : State) : State :=
  if s.reg = some i then { dropAssembly i s with reg := none } else s

/-- END (R62). -/
def execEndInst (i : InstId) (s : State) : Result :=
  onInstance i (Instr.endInst i).cw s <|
    if s.st i = .disabled then complete 2 0 s
    else complete 2 0 ((releaseRegistry i s).setSt i .disabled)

/-- FORCE_HOLD (R63). -/
def execForceHold (i : InstId) (s : State) : Result :=
  onInstance i (Instr.forceHold i).cw s <|
    if s.st i = .disabled then raise .state (Instr.forceHold i).cw s
    else complete 2 0 ((leaveListening i s).setSt i .holding)

/-- FORCE_LISTEN (R64). -/
def execForceListen (i : InstId) (s : State) : Result :=
  onInstance i (Instr.forceListen i).cw s <|
    if s.st i = .disabled then raise .state (Instr.forceListen i).cw s
    else complete 2 0 (s.setSt i .listening)

end Sys2Proof.Machine
end

