-- ==== Sys2Proof/Machine/RegistryCommands.lean ====
section
/-! DEFINITION. The Active-Instance Registry and the instance queries (43_registry.md): SET_ACTIVE, IS_ACTIVE,
GET_DATA_PIN, SET_TIMEOUT, GET_TIMEOUT. -/

namespace Sys2Proof.Machine

/-- SET_ACTIVE (R86): 0 already active, 2 refused while a character is being received, 1 installed. -/
def execSetActive (i : InstId) (s : State) : Result :=
  onInstance i (Instr.setActive i).cw s <|
    if s.st i = .disabled then raise .state (Instr.setActive i).cw s
    else if s.txBusy = true ∧ s.txInst ≠ i then raise .activeTx (Instr.setActive i).cw s
    else if s.reg = some i then complete 2 0 s
    else if s.rxBusy then complete 2 2 s
    else complete 2 1 { s with reg := some i }

/-- IS_ACTIVE (R87). -/
def execIsActive (i : InstId) (s : State) : Result :=
  onInstance i (Instr.isActive i).cw s <| complete 2 (boolWord (s.reg == some i)) s

/-- GET_DATA_PIN (R88). -/
def execGetDataPin (i : InstId) (s : State) : Result :=
  onInstance i (Instr.getDataPin i).cw s <| complete 2 (byteWord (s.pin i)) s

/-- SET_TIMEOUT (R89). -/
def execSetTimeout (i : InstId) (v : Word) (s : State) : Result :=
  onInstance i (Instr.setTimeout i v).cw s <| complete 6 0 (s.setTmo i v)

/-- GET_TIMEOUT (R90). -/
def execGetTimeout (i : InstId) (s : State) : Result :=
  onInstance i (Instr.getTimeout i).cw s <| complete 2 (s.tmo i) s

end Sys2Proof.Machine
end

