-- ==== Sys2Proof/Machine/Transmitter.lean ====
section
/-! DEFINITION. The bit-banged transmitter (44_transmitter.md): frames as segment lists, the start and the end of a
transmission, the transmit phase of a tick, and WRITE, SEND_COMMAND, SEND_RESPONSE. -/

namespace Sys2Proof.Machine

/-- `charSegs(c)` (R91): start bit, the seven data bits LSB first, even parity, stop bit, each one bit period of
`w` ticks. Bit 7 of c is not sent. -/
def charSegs (w : Nat) (c : Byte) : List Seg :=
  [ ⟨.space, w⟩,
    ⟨bitLevel (c.getLsbD 0), w⟩, ⟨bitLevel (c.getLsbD 1), w⟩, ⟨bitLevel (c.getLsbD 2), w⟩,
    ⟨bitLevel (c.getLsbD 3), w⟩, ⟨bitLevel (c.getLsbD 4), w⟩, ⟨bitLevel (c.getLsbD 5), w⟩,
    ⟨bitLevel (c.getLsbD 6), w⟩,
    ⟨bitLevel (parity7 (c.setWidth 7)), w⟩,
    ⟨.mark, w⟩ ]

/-- The frames of a text, with no gap between them (R92). -/
def textSegs (w : Nat) (text : List Byte) : List Seg := text.flatMap (charSegs w)

/-- The segments of SEND_COMMAND: break, wake marking, characters (R95). -/
def commandSegs (p : Params) (text : List Byte) : List Seg :=
  ⟨.space, p.breakTicks⟩ :: ⟨.mark, p.wakeMarkTicks⟩ :: textSegs p.bitTicks text

/-- The segments of SEND_RESPONSE: leading marking, characters (R96). -/
def responseSegs (p : Params) (text : List Byte) : List Seg :=
  ⟨.mark, p.respMarkTicks⟩ :: textSegs p.bitTicks text

/-- Zero-length segments are dropped (R93). -/
def driveable (segs : List Seg) : List Seg := segs.filter (fun g => Nat.blt 0 g.ticks)

/-- `ticks(g)` as `tx_left` takes it, 32 bits (R20, R93; log 11). -/
def segTicks (g : Seg) : Word := BitVec.ofNat 32 g.ticks

/-- `EndOfFrame(i)` of a transmit command of `len` bytes (R98): LISTENING, the transmitter idle, `ret 0`. -/
def endOfFrame (i : InstId) (len : Nat) (s : State) : State :=
  retire len 0 { s.setSt i .listening with txBusy := false, txSegs := [], txLeft := 0, txLen := 0 }

/-- The transmitter takes instance i, TRANSMITTING, and the segments g :: gs (R93). -/
def beginFrame (i : InstId) (g : Seg) (gs : List Seg) (len : Nat) (s : State) : State :=
  { s.setSt i .transmitting with
    txBusy := true, txInst := i, txSegs := g :: gs, txLeft := segTicks g, txLen := len }

/-- `StartTx(i, segs)` (R93), for the transmit command with word `cw` and `len` bytes. -/
def startTx (i : InstId) (segs : List Seg) (cw : Half) (len : Nat) (s : State) : Result :=
  if s.st i = .disabled then raise .state cw s
  else
    match driveable segs with
    | [] => .next (endOfFrame i len ((leaveListening i s).setSt i .transmitting))
    | g :: gs => .next (beginFrame i g gs len (leaveListening i s))

/-- The transmit phase P6 of a tick (R97). -/
def transmitPhase (s : State) : State :=
  if s.txBusy then
    if s.txLeft - 1 = 0 then
      match s.txSegs.tail with
      | [] => endOfFrame s.txInst s.txLen s
      | g :: gs => { s with txSegs := g :: gs, txLeft := segTicks g }
    else { s with txLeft := s.txLeft - 1 }
  else s

/-- WRITE (R94). -/
def execWrite (i : InstId) (c : Byte) (s : State) : Result :=
  onInstance i (Instr.write i c).cw s <| startTx i (charSegs s.cfg.bitTicks c) (Instr.write i c).cw 2 s

/-- SEND_COMMAND (R95). -/
def execSendCommand (i : InstId) (text : List Byte) (s : State) : Result :=
  onInstance i (Instr.sendCommand i text).cw s <|
    startTx i (commandSegs s.cfg text) (Instr.sendCommand i text).cw (2 + text.length) s

/-- SEND_RESPONSE (R96). -/
def execSendResponse (i : InstId) (text : List Byte) (s : State) : Result :=
  onInstance i (Instr.sendResponse i text).cw s <|
    startTx i (responseSegs s.cfg text) (Instr.sendResponse i text).cw (2 + text.length) s

end Sys2Proof.Machine
end

