-- ==== Sys2Proof/Machine/Dispatch.lean ====
section
/-! DEFINITION. One arm per command (30_encoding.md R50). -/

namespace Sys2Proof.Machine

/-- What a decoded command does to the state. -/
def exec (i : Instr) (s : State) : Host.Outcome State Fault Refusal :=
  match i with
  | .beginInst a => Sys2Proof.Machine.execBeginInst a s
  | .beginPin a p => Sys2Proof.Machine.execBeginPin a p s
  | .endInst a => Sys2Proof.Machine.execEndInst a s
  | .forceHold a => Sys2Proof.Machine.execForceHold a s
  | .forceListen a => Sys2Proof.Machine.execForceListen a s
  | .setActive a => Sys2Proof.Machine.execSetActive a s
  | .isActive a => Sys2Proof.Machine.execIsActive a s
  | .getDataPin a => Sys2Proof.Machine.execGetDataPin a s
  | .setTimeout a v => Sys2Proof.Machine.execSetTimeout a v s
  | .getTimeout a => Sys2Proof.Machine.execGetTimeout a s
  | .available a => Sys2Proof.Machine.execAvailable a s
  | .peek a => Sys2Proof.Machine.execPeek a s
  | .read a => Sys2Proof.Machine.execRead a s
  | .clearBuffer a => Sys2Proof.Machine.execClearBuffer a s
  | .getOverflow a => Sys2Proof.Machine.execGetOverflow a s
  | .write a c => Sys2Proof.Machine.execWrite a c s
  | .sendCommand a t => Sys2Proof.Machine.execSendCommand a t s
  | .sendResponse a t => Sys2Proof.Machine.execSendResponse a t s

end Sys2Proof.Machine
end

