-- ==== Sys2Proof/Machine/Line.lean ====
section
/-! DEFINITION. Pin drive and level resolution (20_memory.md R40, R41), and the edge detector's view of a pin
(41_receiver.md R68). -/

namespace Sys2Proof.Machine

/-- `NET(p)` (R6): the listed net, or the pin's own number. -/
def netOf (p : Params) (pin : PinId) : Nat := (p.wiring.lookup pin.toNat).getD pin.toNat

/-- `drv(i)` (R40): MARK when HOLDING, the head segment's level when TRANSMITTING, nothing otherwise. A
TRANSMITTING instance with no segment left is not reachable and drives nothing (log 15). -/
def drv (s : State) (i : InstId) : Option Level :=
  match s.st i with
  | .holding => some .mark
  | .transmitting => s.txSegs.head?.map Seg.level
  | .disabled => none
  | .enabled => none
  | .listening => none

/-- `drivers(n)` (R41). -/
def drivers (s : State) (n : Nat) : List Level :=
  allInst.filterMap (fun i => if instExists s i && netOf s.cfg (s.pin i) == n then drv s i else none)

/-- `ext(n)` (R41). -/
def extDrive (d : Draw) (n : Nat) : Drive := (d.ext.lookup n).getD .release

/-- The value a contention on net n takes in this tick (R41). -/
def contentionLevel (d : Draw) (n : Nat) : Level := (d.contention.lookup n).getD .mark

/-- `vals(n)` (R41). -/
def netVals (d : Draw) (s : State) (n : Nat) : List Level :=
  drivers s n ++ (match extDrive d n with | .release => [] | .drive v => [v])

/-- The level of a net with these values on it: PULL_LEVEL, their common value, or the contention's (R41). -/
def resolve (pull contention : Level) : List Level → Level
  | [] => pull
  | v :: vs => if vs.all (fun w => w == v) then v else contention

/-- `netlevel(n)` (R41). -/
def netLevel (d : Draw) (s : State) (n : Nat) : Level :=
  resolve s.cfg.pullLevel (contentionLevel d n) (netVals d s n)

/-- `level(p)` (R41). -/
def pinLevel (d : Draw) (s : State) (p : PinId) : Level := netLevel d s (netOf s.cfg p)

/-- `prev[p]` (R21). No rule reads it for a pin at N_PINS or above (log 15). -/
def prevLevel (s : State) (p : PinId) : Level := s.prev.getD p.toNat s.cfg.pullLevel

/-- `edge(p)` (R68), `lvl` being the levels of this tick. -/
def edge (lvl : PinId → Level) (s : State) (p : PinId) : Bool := lvl p != prevLevel s p

/-- `fall(p)` (R68). -/
def fall (lvl : PinId → Level) (s : State) (p : PinId) : Bool :=
  prevLevel s p == .mark && lvl p == .space

/-- The remember phase P5 (R68, R122): `prev[p] <- level(p)` for every pin. -/
def rememberPhase (lvl : PinId → Level) (s : State) : State :=
  { s with prev := (List.range s.cfg.nPins).map (fun k => lvl (BitVec.ofNat 8 k)) }

end Sys2Proof.Machine
end

