-- ==== Sys2Proof/Machine/Receiver.lean ====
section
/-! DEFINITION. The interrupt-driven receiver (41_receiver.md): sample points, the bit sampler (phase P3), the
parity validator and character assembler, start detection inside the interrupt service (phase P4). -/

namespace Sys2Proof.Machine

/-- `sampleOffset(k)` for bit periods of `w` ticks (R66). -/
def sampleOffset (w k : Nat) : Nat := (k + 1) * w + w / 2

/-- The elapsed ticks since the start edge, modulo 2^32 (R72, R75). -/
def elapsed (s : State) : Nat := (s.now - s.rxT0).toNat

/-- `rx_pat[k] <- v` (R72). -/
def setSample (pat : BitVec 9) (k : Nat) (v : Level) : BitVec 9 :=
  (pat &&& ~~~(1#9 <<< k)) ||| (if levelBit v then 1#9 <<< k else 0#9)

/-- The seven data bits of a pattern, `rx_pat[6:0]` (R73). -/
def patData (pat : BitVec 9) : BitVec 7 := pat.extractLsb' 0 7

/-- A pattern is a character: the stop sample is MARK and the parity is even (R73). -/
def patValid (pat : BitVec 9) : Bool := pat.getLsbD 8 && parityOK (patData pat) (pat.getLsbD 7)

/-- `Complete()` (R73): push the character or discard it; the assembly is reset regardless. -/
def completeChar (s : State) : State :=
  clearAssembly (if patValid s.rxPat then push ((patData s.rxPat).setWidth 8) s else s)

/-- One sample of level v is taken (R72): it is the ninth when `rx_n` is 8. -/
def takeSample (v : Level) (s : State) : State :=
  let s' := { s with rxPat := setSample s.rxPat s.rxN.val v }
  if h : s.rxN.val < 8 then { s' with rxN := ⟨s.rxN.val + 1, by omega⟩ } else completeChar s'

/-- The sample phase P3 (R72). With `reg = NONE` no assembly is in progress in any reachable state (R30(d)); the
sampler then does nothing (log 15). -/
def samplePhase (lvl : PinId → Level) (s : State) : State :=
  match s.reg with
  | none => s
  | some a =>
    if s.rxBusy = true ∧ elapsed s = sampleOffset s.cfg.bitTicks s.rxN.val then takeSample (lvl (s.pin a)) s else s

/-- Start detection for instance a (R70, R71). -/
def startDetect (lvl : PinId → Level) (a : InstId) (s : State) : State :=
  if s.rxBusy = false ∧ fall lvl s (s.pin a) = true then
    { s with rxBusy := true, rxT0 := s.now, rxN := 0, rxPat := 0 }
  else s

/-- A pin-change request exists: an edge on the pin of an armed instance (R69, R106). -/
def irqRequest (lvl : PinId → Level) (s : State) : Bool :=
  allInst.any (fun a => armed s a && edge lvl s (s.pin a))

/-- `ISR()` (60_exceptions.md R107): dispatch to the active instance; with none registered, acknowledge only. The
acknowledge clears a condition that is not stored (R106). -/
def isr (lvl : PinId → Level) (s : State) : State :=
  match s.reg with
  | none => s
  | some a => startDetect lvl a s

/-- The interrupt phase P4 (R122). -/
def interruptPhase (lvl : PinId → Level) (s : State) : State := if irqRequest lvl s then isr lvl s else s

end Sys2Proof.Machine
end

