-- ==== Sys2Proof/Machine/Tick.lean ====
section
/-! DEFINITION. One tick (70_reset_and_hazards.md R122). -/

namespace Sys2Proof.Machine

/-- The time phase P7: `now <- (now + 1) mod 2^32` (R122). -/
def timePhase (s : State) : State := { s with now := s.now + 1 }

/-- One Tick with ENV's draws d (R122): P1 resolves the levels from the state the tick starts in; P2 is `edge` and
`fall` over them; then P3 sample, P4 interrupt, P5 remember, P6 transmit, P7 time. -/
def tick (d : Draw) (s : State) : State :=
  let lvl := pinLevel d s
  timePhase (transmitPhase (rememberPhase lvl (interruptPhase lvl (samplePhase lvl s))))

end Sys2Proof.Machine
end

