-- ==== Sys2Proof/Machine/Step.lean ====
section
/-! DEFINITION. The step relation (70_reset_and_hazards.md R121): one HostStep or one Tick. -/

namespace Sys2Proof.Machine

/-- A HostStep (R121): the command at `cp` is decoded and run; a rejected one faults (R47, R51). -/
def hostStep (s : State) : Result :=
  match fetch s with
  | .ok c => exec c s
  | .error r => raise r.cause r.cw s

/-- One step (R121). A halted block has none (R103). Otherwise the next input is taken: HOST goes if it has the
turn and a step, and else a Tick runs with that input's draws (log 5). -/
def step (s : State) : Host.Outcome State Fault Refusal :=
  if halted s then .fault .halted
  else if (nextInput s).hostTurn && hostEnabled s then hostStep (dropInput s)
  else .next (tick (nextInput s).draw (dropInput s))

/-- The state with an instruction's bits stored at `cp` and HOST given the next turn (log 8). -/
def State.withFetchWord (s : State) (nbits w : Nat) : State :=
  { s with
    stream := placeBytes s.stream s.cp.toNat (tableBytes nbits w)
    inputs := { hostTurn := true } :: s.inputs }

end Sys2Proof.Machine
end

