-- ==== Sys2Proof/Machine/Assembler.lean ====
section
/-! DEFINITION. The assembler of the command stream (30_encoding.md R54) and the pseudo-instructions with their
expansions (R55). What R54 leaves open (white space, spelling in either case, signs, escapes, errors) is log 19. -/

namespace Sys2Proof.Machine

/-- The expansions of R55. -/
def Pseudo.expand : Pseudo → List Instr
  | .init i p => [.beginPin i p, .setActive i, .forceListen i]
  | .listen i => [.setActive i, .forceListen i]
  | .hold i => [.forceHold i]

/-- The stream of a list of commands. -/
def encodeAll (cs : List Instr) : List Byte := cs.flatMap encode

/-! ### Lexical items -/

/-- The value of a digit in the given base, 10 or 16. -/
def digitValue (base : Nat) (c : Char) : Option Nat :=
  let n := c.toNat
  let v :=
    if 48 ≤ n ∧ n ≤ 57 then n - 48
    else if 97 ≤ n ∧ n ≤ 102 then n - 87
    else if 65 ≤ n ∧ n ≤ 70 then n - 55
    else base
  if v < base then some v else none

/-- The digits of a number, most significant first. -/
def digits (base : Nat) (acc : Nat) : List Char → Option Nat
  | [] => some acc
  | c :: cs => (digitValue base c).bind (fun d => digits base (acc * base + d) cs)

/-- A number: decimal, or hexadecimal with `0x` (R54). -/
def number : List Char → Option Nat
  | [] => none
  | ['0', 'x'] => none
  | '0' :: 'x' :: cs => digits 16 0 cs
  | c :: cs => digits 10 0 (c :: cs)

/-- Blanks at both ends are dropped. -/
def trimBlanks (cs : List Char) : List Char :=
  ((cs.dropWhile (fun c => c == ' ')).reverse.dropWhile (fun c => c == ' ')).reverse

/-- The operands of a line, split at commas outside quotes, without its comment (R54). The next `skip` characters
stand for themselves: the one after a backslash, and the two after the quote that opens a character literal. -/
def splitOperands (quoted : Bool) (skip : Nat) (cur : List Char) : List Char → List (List Char)
  | [] => [cur.reverse]
  | c :: cs =>
    if skip ≠ 0 then splitOperands quoted (skip - 1) (c :: cur) cs
    else if c == '"' then splitOperands (!quoted) 0 (c :: cur) cs
    else if c == '\\' then splitOperands quoted 1 (c :: cur) cs
    else if quoted then splitOperands quoted 0 (c :: cur) cs
    else if c == '\'' then splitOperands quoted 2 (c :: cur) cs
    else if c == ',' then cur.reverse :: splitOperands false 0 [] cs
    else if c == ';' then [cur.reverse]
    else splitOperands quoted 0 (c :: cur) cs

/-- A character's ASCII byte. -/
def asciiByte (c : Char) : Option Byte := if c.toNat < 128 then some (BitVec.ofNat 8 c.toNat) else none

/-- What a backslash inside the quotes stands for, from the characters after it: its byte, and how many of them it
takes (R54: `\"`, `\\`, `\xHH`). DESIGN CHOICE (log 19): a backslash that begins none of the three is one of R54's
"every other character" and stands for its own ASCII byte. -/
def escapedByte : List Char → Byte × Nat
  | '"' :: _ => (0x22, 1)
  | '\\' :: _ => (0x5C, 1)
  | 'x' :: h :: l :: _ =>
    match digits 16 0 [h, l] with
    | some v => (BitVec.ofNat 8 v, 3)
    | none => (0x5C, 0)
  | _ => (0x5C, 0)

/-- The bytes of a text up to its closing quote, the end of the operand (R54); the next `skip` characters belong to
an escape read already. -/
def quotedBytes (skip : Nat) : List Char → Option (List Byte)
  | [] => none
  | c :: cs =>
    if skip ≠ 0 then quotedBytes (skip - 1) cs
    else if c == '"' then (if cs.isEmpty then some [] else none)
    else if c == '\\' then (quotedBytes (escapedByte cs).2 cs).map ((escapedByte cs).1 :: ·)
    else (asciiByte c).bind (fun b => (quotedBytes 0 cs).map (b :: ·))

/-- The operand INST. -/
def instOperand (cs : List Char) : Option InstId :=
  (number cs).bind (fun n => if h : n < 8 then some ⟨n, h⟩ else none)

/-- The operand of format I: a number below 256 or a character literal (R54). -/
def byteOperand : List Char → Option Byte
  | ['\'', c, '\''] => asciiByte c
  | cs => (number cs).bind (fun n => if n < 256 then some (BitVec.ofNat 8 n) else none)

/-- The operand of format W: a signed decimal or a `0x` 32-bit value (R54). DESIGN CHOICE (log 19): the decimal has a
minus sign or none, a leading plus is refused, and it lies in the range of a signed 32-bit word. -/
def wordOperand : List Char → Option Word
  | '-' :: cs => (digits 10 0 cs).bind (fun n => if cs ≠ [] ∧ n ≤ 2 ^ 31 then some (-(BitVec.ofNat 32 n)) else none)
  | '0' :: 'x' :: cs =>
    (number ('0' :: 'x' :: cs)).bind (fun n => if n < 2 ^ 32 then some (BitVec.ofNat 32 n) else none)
  | cs => (number cs).bind (fun n => if n < 2 ^ 31 then some (BitVec.ofNat 32 n) else none)

/-- The operand of format T; a text longer than 255 bytes is refused (R54). -/
def textOperand : List Char → Option (List Byte)
  | '"' :: cs => (quotedBytes 0 cs).bind (fun t => if t.length ≤ 255 then some t else none)
  | _ => none

/-! ### Mnemonics -/

/-- The mnemonic the source's method name of R55 stands for; `begin` with a pin is BEGIN_PIN. -/
def canonical (name : String) (nOperands : Nat) : String :=
  if name == "begin" && nOperands == 2 then "BEGIN_PIN"
  else
    let aliases : List (String × String) :=
      [("begin", "BEGIN"), ("end", "END"), ("forceHold", "FORCE_HOLD"), ("forceListen", "FORCE_LISTEN"),
       ("setActive", "SET_ACTIVE"), ("isActive", "IS_ACTIVE"), ("getDataPin", "GET_DATA_PIN"),
       ("setTimeoutValue", "SET_TIMEOUT"), ("available", "AVAILABLE"), ("peek", "PEEK"), ("read", "READ"),
       ("clearBuffer", "CLEAR_BUFFER"), ("write", "WRITE"), ("sendCommand", "SEND_COMMAND"),
       ("sendResponse", "SEND_RESPONSE")]
    (aliases.lookup name).getD name

/-- A line with one operand: format N, or the pseudo-instructions LISTEN and HOLD. -/
def oneOperand (name : String) (i : InstId) : Option (List Instr) :=
  let table : List (String × List Instr) :=
    [("BEGIN", [.beginInst i]), ("END", [.endInst i]), ("FORCE_HOLD", [.forceHold i]),
     ("FORCE_LISTEN", [.forceListen i]), ("SET_ACTIVE", [.setActive i]), ("IS_ACTIVE", [.isActive i]),
     ("GET_DATA_PIN", [.getDataPin i]), ("GET_TIMEOUT", [.getTimeout i]), ("AVAILABLE", [.available i]),
     ("PEEK", [.peek i]), ("READ", [.read i]), ("CLEAR_BUFFER", [.clearBuffer i]),
     ("GET_OVERFLOW", [.getOverflow i]), ("LISTEN", Pseudo.expand (.listen i)), ("HOLD", Pseudo.expand (.hold i))]
  table.lookup name

/-- A line with two operands: formats I, W, T, or the pseudo-instruction INIT. -/
def twoOperands (name : String) (i : InstId) (x : List Char) : Option (List Instr) :=
  if name == "BEGIN_PIN" then (byteOperand x).map (fun p => [.beginPin i p])
  else if name == "WRITE" then (byteOperand x).map (fun c => [.write i c])
  else if name == "SET_TIMEOUT" then (wordOperand x).map (fun v => [.setTimeout i v])
  else if name == "SEND_COMMAND" then (textOperand x).map (fun t => [.sendCommand i t])
  else if name == "SEND_RESPONSE" then (textOperand x).map (fun t => [.sendResponse i t])
  else if name == "INIT" then (byteOperand x).map (fun p => Pseudo.expand (.init i p))
  else none

/-- One line of assembler text (R54): the commands it stands for; a blank or comment line stands for none. -/
def assembleLine (line : String) : Option (List Instr) :=
  let cs := trimBlanks line.toList
  let name := cs.takeWhile (fun c => c != ' ' && c != ';')
  let operands := (splitOperands false 0 [] (cs.drop name.length)).map trimBlanks
  match name, operands with
  | [], [[]] => some []
  | _, [x] => (instOperand x).bind (fun i => oneOperand (canonical (String.ofList name) 1) i)
  | _, [x, y] => (instOperand x).bind (fun i => twoOperands (canonical (String.ofList name) 2) i y)
  | _, _ => none

/-- A program text, a line an entry: its command stream. -/
def assemble : List String → Option (List Byte)
  | [] => some []
  | l :: ls => (assembleLine l).bind (fun cs => (assemble ls).map (encodeAll cs ++ ·))

end Sys2Proof.Machine
end

