-- ==== Sys2Proof/Safety.lean ====
section
/-! DEFINITION. The terms claims are stated in: the bytes the buffer holds, runs of ticks, the end of a run
(70_reset_and_hazards.md R123), and the invariants of 10_state.md R30. -/

namespace Sys2Proof.Machine

/-- The slot k places after t, modulo CAP. -/
def slotAfter (t : Fin 75) (k : Nat) : Fin 75 := ⟨(t.val + k) % 75, Nat.mod_lt _ (by decide)⟩

/-- The bytes the buffer holds, the oldest first (R17, R30(c)). -/
def bufferContents (s : State) : List Byte :=
  (List.range s.count.val).map (fun k => memRead s (slotAfter s.tail k))

/-- The state after a tick with each of the draws, in order: a run in which HOST has no step. -/
def runTicks : List Draw → State → State
  | [], s => s
  | d :: ds, s => runTicks ds (tick d s)

/-- The number of ticks a segment list is driven for (R97). -/
def totalTicks : List Seg → Nat
  | [] => 0
  | g :: gs => g.ticks + totalTicks gs

/-- The level a segment list drives `t` ticks after it began, if it still drives (R97). -/
def levelAt : List Seg → Nat → Option Level
  | [], _ => none
  | g :: gs, t => if t < g.ticks then some g.level else levelAt gs (t - g.ticks)

/-- What a fault of the command at `cp` records as its command word (R47, R51): 0 when one byte is left. -/
def wordAtCp (s : State) : Half :=
  match fetchBytes s with
  | b0 :: b1 :: _ => b1 ++ b0
  | _ => 0

/-- The end of a run (R123): `fault = 0`, `tx_busy = 0`, `cp = |S|`. -/
def runEnded (s : State) : Bool :=
  !halted s && !s.txBusy && s.cp.toNat == s.stream.length

/-- A safe run stops at no fault: the block is not halted. -/
def safe (s : State) : Bool := !halted s

/-- The samples of a character whose k-th sample (R66) is `v k`, put together as the sampler does (R72). -/
def samplePattern (v : Nat → Level) : BitVec 9 :=
  [0, 1, 2, 3, 4, 5, 6, 7, 8].foldl (fun pat k => setSample pat k (v k)) 0

/-- What pin p carries in the tick run with the t-th of these draws, in a run of ticks from s. -/
def lineAt (ds : List Draw) (s : State) (p : PinId) (t : Nat) : Level :=
  pinLevel (ds.getD t {}) (runTicks (ds.take t) s) p

/-! ### The invariants of R30 -/

/-- R30(a), R30(c) and the canonical form of the slots: `head = (tail + count) mod CAP`, and every slot that is
held has been written, with a 7-bit character (R73: bit 7 is 0). -/
abbrev BufferInv (s : State) : Prop :=
  Memory.wf s.slots = true ∧
  s.head.val = (s.tail.val + s.count.val) % 75 ∧
  ∀ k : Fin 75, k.val < s.count.val →
    ((Memory.read? s.slots (slotAfter s.tail k.val).val).any (fun b => decide (b.toNat < 128))) = true

/-- R30(b), R30(f), and what BEGIN's checks add: the active instance is enabled; an instance that is not DISABLED
exists, on an existing pin, alone on that pin; one remembered level per pin (R21). -/
abbrev EnabledInv (s : State) : Prop :=
  (∀ i : InstId, s.reg = some i → s.st i ≠ .disabled) ∧
  (∀ i : InstId, s.st i ≠ .disabled → instExists s i = true ∧ pinExists s (s.pin i) = true) ∧
  (∀ i j : InstId, i ≠ j → s.st i ≠ .disabled → s.st j ≠ .disabled → s.pin i ≠ s.pin j) ∧
  s.prev.length = s.cfg.nPins

/-- R30(d): an assembly in progress belongs to the armed instance; with none the registers are clear. -/
abbrev AssemblyInv (s : State) : Prop :=
  (s.rxBusy = true → ∃ i : InstId, armed s i = true) ∧ (s.rxBusy = false → s.rxN = 0 ∧ s.rxPat = 0)

/-- R30(e), and the shape of the segment list: `tx_busy` exactly when one instance, `tx_inst`, is TRANSMITTING;
no segment is empty, and `tx_left` is within the head segment. -/
abbrev TransmitInv (s : State) : Prop :=
  (∀ i : InstId, s.st i = .transmitting ↔ s.txBusy = true ∧ i = s.txInst) ∧
  (∀ g ∈ s.txSegs, 0 < g.ticks ∧ g.ticks < 2 ^ 32) ∧
  (s.txBusy = true → 1 ≤ s.txLeft.toNat ∧ s.txLeft.toNat ≤ (s.txSegs.head?.map Seg.ticks).getD 0) ∧
  (s.txBusy = false → s.txSegs = [] ∧ s.txLeft = 0 ∧ s.txLen = 0)

/-- The line side of R30 together, for a machine whose parameters are in range (R6). -/
abbrev LineInv (s : State) : Prop := s.cfg.ok ∧ EnabledInv s ∧ AssemblyInv s ∧ TransmitInv s

/-- No sample point is ever missed (R66, R72, R75): while an assembly is in progress, the ticks since the start
edge have passed the last sample taken and not the next one. -/
abbrev SamplingInv (s : State) : Prop :=
  s.rxBusy = true →
    1 ≤ elapsed s ∧ elapsed s ≤ sampleOffset s.cfg.bitTicks s.rxN.val ∧
    (0 < s.rxN.val → sampleOffset s.cfg.bitTicks (s.rxN.val - 1) < elapsed s)

/-- The host side: the command pointer stays inside an admitted stream (R12), also past the command being sent;
`res` is the last word of `reslog` (R24, R53); a recorded fault is that of the command at `cp`, and without one its
registers are 0 (R23, R103). -/
abbrev HostInv (s : State) : Prop :=
  (s.stream.length < 2 ^ 32 ∧ s.cp.toNat ≤ s.stream.length) ∧
  (s.txBusy = true → 2 ≤ s.txLen ∧ s.cp.toNat + s.txLen ≤ s.stream.length) ∧
  s.res = s.reslog.getLast?.getD 0 ∧
  (s.fault = none → s.faultCw = 0 ∧ s.faultCp = 0) ∧
  (s.fault ≠ none → s.faultCp = s.cp ∧ s.txBusy = false ∧ s.cp.toNat < s.stream.length)

end Sys2Proof.Machine
end

