-- ==== Sys2Proof/Certificates/Slice0/Obligations.lean ====
section
/-! DEFINITION. The statements for the provers. A statement holds for every parameter record `s.cfg`; where a rule
needs the ranges of R6 it says `s.cfg.ok`, which also bounds the three durations by 2^32 (log 11). The field `txLen`,
the length of the transmit command in progress, is the model's own (log 10), and so is the list of inputs that says
whose turn it is (log 5). -/

open Sys2Proof Sys2Proof.Machine

/-! ### Encoding (30_encoding.md) -/

/-- R50, one word of each row written out from the table's pattern (and R47's byte order). -/
def Obligations.TableRowsDecode : Prop :=
  decode [0x00, 0x08] = .ok (.beginInst 0) ∧
  decode [0x0A, 0x10] = .ok (.beginPin 0 10) ∧
  decode [0x00, 0x19] = .ok (.endInst 1) ∧
  decode [0x00, 0x20] = .ok (.forceHold 0) ∧
  decode [0x00, 0x28] = .ok (.forceListen 0) ∧
  decode [0x00, 0x31] = .ok (.setActive 1) ∧
  decode [0x00, 0x39] = .ok (.isActive 1) ∧
  decode [0x00, 0x40] = .ok (.getDataPin 0) ∧
  decode [0x00, 0x48, 0xF1, 0xD8, 0xFF, 0xFF] = .ok (.setTimeout 0 0xFFFFD8F1) ∧
  decode [0x00, 0x50] = .ok (.getTimeout 0) ∧
  decode [0x00, 0x5F] = .ok (.available 7) ∧
  decode [0x00, 0x61] = .ok (.peek 1) ∧
  decode [0x00, 0x68] = .ok (.read 0) ∧
  decode [0x00, 0x70] = .ok (.clearBuffer 0) ∧
  decode [0x00, 0x78] = .ok (.getOverflow 0) ∧
  decode [0x41, 0x81] = .ok (.write 1 0x41) ∧
  decode [0x03, 0x88, 0x61, 0x4D, 0x21] = .ok (.sendCommand 0 [0x61, 0x4D, 0x21]) ∧
  decode [0x01, 0x91, 0x30] = .ok (.sendResponse 1 [0x30])

/-- R50: "The command word of OP with INST = i and IMM8 = m is `(OP << 11) | (i << 8) | m`"; R48: the decoder's
fields are the encoder's; R35, R47: the low byte comes first. -/
def Obligations.CommandWordLayout : Prop :=
  ∀ c : Instr,
    c.cw = (c.opcode.setWidth 16 <<< 11) ||| (BitVec.ofNat 16 c.inst.val <<< 8) ||| c.imm.setWidth 16 ∧
    opField c.cw = c.opcode ∧ instField c.cw = c.inst ∧ immField c.cw = c.imm ∧
    ∃ lo hi, encode c = lo :: hi :: c.operandBytes ∧ half lo hi = c.cw

/-- Decode and encode agree, for every command that has an encoding, whatever follows it in the stream. -/
def Obligations.DecodeInvertsEncode : Prop :=
  ∀ (c : Instr) (rest : List Byte), c.encodable → decode (encode c ++ rest) = .ok c

/-- The other direction: a decoded command is read from its own encoding, of the length R48 gives its format. -/
def Obligations.DecodedBytesAreTheEncoding : Prop :=
  ∀ (bs : List Byte) (c : Instr), decode bs = .ok c →
    c.encodable ∧ (encode c).length = c.length ∧ ∃ rest, bs = encode c ++ rest

/-- R51, in the order of R104: what a HostStep does with bytes that are no command. -/
def Obligations.IllegalEncodingsFault : Prop :=
  ∀ s : State,
    (∀ b0, s.stream.drop s.cp.toNat = [b0] →
      hostStep s = .next { s with fault := some .trunc, faultCw := 0, faultCp := s.cp }) ∧
    (∀ (b0 b1 : Byte) (rest : List Byte), s.stream.drop s.cp.toNat = b0 :: b1 :: rest →
      let cw : Half := b1 ++ b0
      let op := cw.toNat / 2 ^ 11
      let imm := b0.toNat
      let short := (op = 0x09 ∧ rest.length < 4) ∨ ((op = 0x11 ∨ op = 0x12) ∧ rest.length < imm)
      let badField := (op ≠ 0x02 ∧ op ≤ 0x0F ∧ imm ≠ 0)
      let reserved := (op = 0x00 ∨ 0x13 ≤ op)
      (reserved → hostStep s = .next { s with fault := some .opcode, faultCw := cw, faultCp := s.cp }) ∧
      (¬reserved ∧ short → hostStep s = .next { s with fault := some .trunc, faultCw := cw, faultCp := s.cp }) ∧
      (¬reserved ∧ ¬short ∧ badField →
        hostStep s = .next { s with fault := some .field, faultCw := cw, faultCp := s.cp }) ∧
      (¬reserved ∧ ¬short ∧ ¬badField ∧ s.cfg.nInst ≤ b1.toNat % 8 →
        hostStep s = .next { s with fault := some .inst, faultCw := cw, faultCp := s.cp }))

/-! ### Steps and faults (60_exceptions.md, 70_reset_and_hazards.md) -/

/-- R121, R47: a HostStep runs the command whose encoding stands at `cp`. -/
def Obligations.StepRunsTheCommandAtCp : Prop :=
  ∀ (s : State) (c : Instr) (rest : List Byte),
    s.fault = none → s.txBusy = false → s.cp.toNat < s.stream.length → (nextInput s).hostTurn = true →
    c.encodable → s.stream.drop s.cp.toNat = encode c ++ rest →
    step s = exec c (dropInput s)

/-- R121, R99: where HOST has no step, or not the turn, a block that is not halted runs a Tick. -/
def Obligations.StepTicksOtherwise : Prop :=
  ∀ s : State, s.fault = none →
    ((nextInput s).hostTurn = false ∨ s.txBusy = true ∨ s.stream.length ≤ s.cp.toNat) →
    step s = .next (tick (nextInput s).draw (dropInput s))

/-- R103, on every HostStep: a fault records code, command word and `cp` and changes nothing else, a command without
a fault leaves the fault registers alone, and a state with a recorded fault has no step. -/
def Obligations.FaultsArePreciseAndHalt : Prop :=
  (∀ s : State, ∃ t, hostStep s = .next t ∧
    ((t.fault = s.fault ∧ t.faultCw = s.faultCw ∧ t.faultCp = s.faultCp) ∨
      ∃ k, t = { s with fault := some k, faultCw := wordAtCp s, faultCp := s.cp })) ∧
  (∀ s : State, s.fault ≠ none → step s = .fault .halted)

/-- R121, R29: a block that is not halted always has a step, one that is halted has none, and no step is refused. -/
def Obligations.OnlyHaltedBlocksStop : Prop :=
  ∀ s : State, (safe s = true → ∃ t, step s = .next t) ∧ (safe s = false → step s = .fault .halted)

/-- R123: at the end of a run HOST has nothing left to do and only ticks run on; a halted state is no end of a run. -/
def Obligations.RunEndLeavesOnlyTicks : Prop :=
  ∀ s : State, (runEnded s = true → step s = .next (tick (nextInput s).draw (dropInput s))) ∧
    (s.fault ≠ none → runEnded s = false)

/-- R51: `INST >= N_INST` faults, for every command and before any of its own checks. -/
def Obligations.AbsentInstanceFaults : Prop :=
  ∀ (c : Instr) (s : State), s.cfg.nInst ≤ c.inst.val →
    exec c s = .next { s with fault := some .inst, faultCw := c.cw, faultCp := s.cp }

/-- R53: a command other than a transmit command that raises no fault sets `res`, appends it to `reslog` and moves
`cp` past itself; a transmit command does so at once or leaves all three until its frame has been sent. -/
def Obligations.CompletionWritesResultAndPointer : Prop :=
  ∀ (c : Instr) (s t : State), exec c s = .next t → s.fault = none → t.fault = none →
    (t.reslog = s.reslog ++ [t.res] ∧ t.cp = s.cp + BitVec.ofNat 32 c.length) ∨
    (0x10 ≤ c.opcode.toNat ∧ t.txBusy = true ∧ t.txInst = c.inst ∧ t.txLen = c.length ∧
      t.res = s.res ∧ t.reslog = s.reslog ∧ t.cp = s.cp)

/-! ### The Line-State Machine (40_line_state.md) -/

/-- R60: BEGIN. -/
def Obligations.BeginEnablesTheInstance : Prop :=
  ∀ (i : InstId) (s : State), i.val < s.cfg.nInst →
    encode (.beginInst i) = [0x00, 0x08 ||| BitVec.ofNat 8 i.val] ∧
    (s.st i ≠ .disabled →
      exec (.beginInst i) s = .next { s with fault := some .state, faultCw := (Instr.beginInst i).cw, faultCp := s.cp }) ∧
    (s.st i = .disabled ∧ s.cfg.nPins ≤ (s.pin i).toNat →
      exec (.beginInst i) s = .next { s with fault := some .pin, faultCw := (Instr.beginInst i).cw, faultCp := s.cp }) ∧
    (s.st i = .disabled ∧ (s.pin i).toNat < s.cfg.nPins ∧
        (∃ j : InstId, j.val < s.cfg.nInst ∧ j ≠ i ∧ s.st j ≠ .disabled ∧ s.pin j = s.pin i) →
      exec (.beginInst i) s =
        .next { s with fault := some .pinInUse, faultCw := (Instr.beginInst i).cw, faultCp := s.cp }) ∧
    (s.st i = .disabled ∧ (s.pin i).toNat < s.cfg.nPins ∧
        (∀ j : InstId, j.val < s.cfg.nInst → j ≠ i → s.st j ≠ .disabled → s.pin j ≠ s.pin i) →
      exec (.beginInst i) s =
        .next { s with
          insts := s.insts.set i { s.insts[i] with st := .enabled }
          res := 0, reslog := s.reslog ++ [0], cp := s.cp + 2 })

/-- R61: BEGIN_PIN. -/
def Obligations.BeginPinSetsPinAndEnables : Prop :=
  ∀ (i : InstId) (p : PinId) (s : State), i.val < s.cfg.nInst →
    encode (.beginPin i p) = [p, 0x10 ||| BitVec.ofNat 8 i.val] ∧
    (s.st i ≠ .disabled →
      exec (.beginPin i p) s = .next { s with fault := some .state, faultCw := (Instr.beginPin i p).cw, faultCp := s.cp }) ∧
    (s.st i = .disabled ∧ s.cfg.nPins ≤ p.toNat →
      exec (.beginPin i p) s = .next { s with fault := some .pin, faultCw := (Instr.beginPin i p).cw, faultCp := s.cp }) ∧
    (s.st i = .disabled ∧ p.toNat < s.cfg.nPins ∧
        (∃ j : InstId, j.val < s.cfg.nInst ∧ j ≠ i ∧ s.st j ≠ .disabled ∧ s.pin j = p) →
      exec (.beginPin i p) s =
        .next { s with fault := some .pinInUse, faultCw := (Instr.beginPin i p).cw, faultCp := s.cp }) ∧
    (s.st i = .disabled ∧ p.toNat < s.cfg.nPins ∧
        (∀ j : InstId, j.val < s.cfg.nInst → j ≠ i → s.st j ≠ .disabled → s.pin j ≠ p) →
      exec (.beginPin i p) s =
        .next { s with
          insts := s.insts.set i { s.insts[i] with st := .enabled, pin := p }
          res := 0, reslog := s.reslog ++ [0], cp := s.cp + 2 })

/-- R62: END. -/
def Obligations.EndDisablesAndReleasesTheRegistry : Prop :=
  ∀ (i : InstId) (s : State), i.val < s.cfg.nInst →
    encode (.endInst i) = [0x00, 0x18 ||| BitVec.ofNat 8 i.val] ∧
    (s.st i = .disabled →
      exec (.endInst i) s = .next { s with res := 0, reslog := s.reslog ++ [0], cp := s.cp + 2 }) ∧
    (s.st i ≠ .disabled ∧ s.reg ≠ some i →
      exec (.endInst i) s =
        .next { s with
          insts := s.insts.set i { s.insts[i] with st := .disabled }
          res := 0, reslog := s.reslog ++ [0], cp := s.cp + 2 }) ∧
    (s.st i ≠ .disabled ∧ s.reg = some i ∧ s.rxBusy = false →
      exec (.endInst i) s =
        .next { s with
          insts := s.insts.set i { s.insts[i] with st := .disabled }, reg := none
          res := 0, reslog := s.reslog ++ [0], cp := s.cp + 2 }) ∧
    (s.st i ≠ .disabled ∧ s.reg = some i ∧ s.rxBusy = true →
      exec (.endInst i) s =
        .next { s with
          insts := s.insts.set i { s.insts[i] with st := .disabled }, reg := none
          rxBusy := false, rxN := 0, rxPat := 0
          res := 0, reslog := s.reslog ++ [0], cp := s.cp + 2 })

/-- R63 with R58: FORCE_HOLD. -/
def Obligations.ForceHoldHoldsAndDropsTheAssembly : Prop :=
  ∀ (i : InstId) (s : State), i.val < s.cfg.nInst →
    encode (.forceHold i) = [0x00, 0x20 ||| BitVec.ofNat 8 i.val] ∧
    (s.st i = .disabled →
      exec (.forceHold i) s = .next { s with fault := some .state, faultCw := (Instr.forceHold i).cw, faultCp := s.cp }) ∧
    (s.st i ≠ .disabled ∧ ¬(s.st i = .listening ∧ s.reg = some i ∧ s.rxBusy = true) →
      exec (.forceHold i) s =
        .next { s with
          insts := s.insts.set i { s.insts[i] with st := .holding }
          res := 0, reslog := s.reslog ++ [0], cp := s.cp + 2 }) ∧
    (s.st i = .listening ∧ s.reg = some i ∧ s.rxBusy = true →
      exec (.forceHold i) s =
        .next { s with
          insts := s.insts.set i { s.insts[i] with st := .holding }
          rxBusy := false, rxN := 0, rxPat := 0
          res := 0, reslog := s.reslog ++ [0], cp := s.cp + 2 })

/-- R64: FORCE_LISTEN; the instance is armed exactly when it is the active one. -/
def Obligations.ForceListenListens : Prop :=
  ∀ (i : InstId) (s : State), i.val < s.cfg.nInst →
    encode (.forceListen i) = [0x00, 0x28 ||| BitVec.ofNat 8 i.val] ∧
    (s.st i = .disabled →
      exec (.forceListen i) s =
        .next { s with fault := some .state, faultCw := (Instr.forceListen i).cw, faultCp := s.cp }) ∧
    (s.st i ≠ .disabled →
      ∃ t, exec (.forceListen i) s = .next t ∧
        t = { s with
          insts := s.insts.set i { s.insts[i] with st := .listening }
          res := 0, reslog := s.reslog ++ [0], cp := s.cp + 2 } ∧
        (armed t i = true ↔ s.reg = some i))

/-! ### The registry (43_registry.md) -/

/-- R86: SET_ACTIVE, its two faults and its three results. -/
def Obligations.SetActiveInstallsOrRefuses : Prop :=
  ∀ (i : InstId) (s : State), i.val < s.cfg.nInst →
    encode (.setActive i) = [0x00, 0x30 ||| BitVec.ofNat 8 i.val] ∧
    (s.st i = .disabled →
      exec (.setActive i) s = .next { s with fault := some .state, faultCw := (Instr.setActive i).cw, faultCp := s.cp }) ∧
    (s.st i ≠ .disabled ∧ s.txBusy = true ∧ s.txInst ≠ i →
      exec (.setActive i) s =
        .next { s with fault := some .activeTx, faultCw := (Instr.setActive i).cw, faultCp := s.cp }) ∧
    (s.st i ≠ .disabled ∧ ¬(s.txBusy = true ∧ s.txInst ≠ i) →
      (s.reg = some i →
        exec (.setActive i) s = .next { s with res := 0, reslog := s.reslog ++ [0], cp := s.cp + 2 }) ∧
      (s.reg ≠ some i ∧ s.rxBusy = true →
        exec (.setActive i) s = .next { s with res := 2, reslog := s.reslog ++ [2], cp := s.cp + 2 }) ∧
      (s.reg ≠ some i ∧ s.rxBusy = false →
        exec (.setActive i) s = .next { s with reg := some i, res := 1, reslog := s.reslog ++ [1], cp := s.cp + 2 }))

/-- R87: IS_ACTIVE. -/
def Obligations.IsActiveQueriesTheRegistry : Prop :=
  ∀ (i : InstId) (s : State), i.val < s.cfg.nInst →
    encode (.isActive i) = [0x00, 0x38 ||| BitVec.ofNat 8 i.val] ∧
    (s.reg = some i → exec (.isActive i) s = .next { s with res := 1, reslog := s.reslog ++ [1], cp := s.cp + 2 }) ∧
    (s.reg ≠ some i → exec (.isActive i) s = .next { s with res := 0, reslog := s.reslog ++ [0], cp := s.cp + 2 })

/-- R88: GET_DATA_PIN returns the zero-extended pin id. -/
def Obligations.GetDataPinReturnsThePin : Prop :=
  ∀ (i : InstId) (s : State), i.val < s.cfg.nInst →
    encode (.getDataPin i) = [0x00, 0x40 ||| BitVec.ofNat 8 i.val] ∧
    ∃ w : Word, w.toNat = (s.pin i).toNat ∧
      exec (.getDataPin i) s = .next { s with res := w, reslog := s.reslog ++ [w], cp := s.cp + 2 }

/-- R89: SET_TIMEOUT stores every 32-bit value unchanged; R90: GET_TIMEOUT returns the register. -/
def Obligations.TimeoutIsStoredAndReadBack : Prop :=
  (∀ (i : InstId) (v : Word) (s : State), i.val < s.cfg.nInst →
    encode (.setTimeout i v) =
      [0x00, 0x48 ||| BitVec.ofNat 8 i.val, v.setWidth 8, (v >>> 8).setWidth 8, (v >>> 16).setWidth 8,
        (v >>> 24).setWidth 8] ∧
    ∃ t, exec (.setTimeout i v) s = .next t ∧
      t = { s with
        insts := s.insts.set i { s.insts[i] with tmo := v }
        res := 0, reslog := s.reslog ++ [0], cp := s.cp + 6 } ∧
      t.tmo i = v) ∧
  (∀ (i : InstId) (s : State), i.val < s.cfg.nInst →
    encode (.getTimeout i) = [0x00, 0x50 ||| BitVec.ofNat 8 i.val] ∧
    exec (.getTimeout i) s = .next { s with res := s.tmo i, reslog := s.reslog ++ [s.tmo i], cp := s.cp + 2 })

/-! ### The Shared Receive Buffer (42_buffer.md) -/

/-- R79: Push, in any state: the byte goes to `head` and no other slot changes; a full buffer drops it and sets the
overflow flag. -/
def Obligations.PushWritesHeadOrSetsOverflow : Prop :=
  ∀ (v : Byte) (s : State),
    (s.count.val = 75 → push v s = { s with ovf := true }) ∧
    (s.count.val < 75 →
      (push v s).head.val = (s.head.val + 1) % 75 ∧ (push v s).count.val = s.count.val + 1 ∧
      memRead (push v s) s.head = v ∧ (∀ k, k ≠ s.head → memRead (push v s) k = memRead s k) ∧
      { push v s with head := s.head, count := s.count, slots := s.slots } = s)

/-- R80: AVAILABLE; R84: GET_OVERFLOW. -/
def Obligations.AvailableAndOverflowAreRead : Prop :=
  ∀ (i : InstId) (s : State), i.val < s.cfg.nInst →
    encode (.available i) = [0x00, 0x58 ||| BitVec.ofNat 8 i.val] ∧
    encode (.getOverflow i) = [0x00, 0x78 ||| BitVec.ofNat 8 i.val] ∧
    (∃ w : Word, w.toNat = s.count.val ∧
      exec (.available i) s = .next { s with res := w, reslog := s.reslog ++ [w], cp := s.cp + 2 }) ∧
    (s.ovf = true → exec (.getOverflow i) s = .next { s with res := 1, reslog := s.reslog ++ [1], cp := s.cp + 2 }) ∧
    (s.ovf = false → exec (.getOverflow i) s = .next { s with res := 0, reslog := s.reslog ++ [0], cp := s.cp + 2 })

/-- R81: PEEK. -/
def Obligations.PeekReturnsTheOldestByte : Prop :=
  ∀ (i : InstId) (s : State), i.val < s.cfg.nInst →
    encode (.peek i) = [0x00, 0x60 ||| BitVec.ofNat 8 i.val] ∧
    (s.count.val = 0 →
      exec (.peek i) s = .next { s with res := 0xFFFFFFFF, reslog := s.reslog ++ [0xFFFFFFFF], cp := s.cp + 2 }) ∧
    (s.count.val ≠ 0 → ∃ w : Word, w.toNat = (memRead s s.tail).toNat ∧
      exec (.peek i) s = .next { s with res := w, reslog := s.reslog ++ [w], cp := s.cp + 2 })

/-- R82: READ. -/
def Obligations.ReadRemovesTheOldestByte : Prop :=
  ∀ (i : InstId) (s : State), i.val < s.cfg.nInst →
    encode (.read i) = [0x00, 0x68 ||| BitVec.ofNat 8 i.val] ∧
    (s.count.val = 0 →
      exec (.read i) s = .next { s with res := 0xFFFFFFFF, reslog := s.reslog ++ [0xFFFFFFFF], cp := s.cp + 2 }) ∧
    (s.count.val ≠ 0 → ∃ (w : Word) (tl : Fin 75) (n : Fin 76),
      w.toNat = (memRead s s.tail).toNat ∧ tl.val = (s.tail.val + 1) % 75 ∧ n.val = s.count.val - 1 ∧
      exec (.read i) s =
        .next { s with tail := tl, count := n, res := w, reslog := s.reslog ++ [w], cp := s.cp + 2 })

/-- R83: CLEAR_BUFFER; the slots and an assembly in progress stay as they are. -/
def Obligations.ClearBufferEmptiesIt : Prop :=
  ∀ (i : InstId) (s : State), i.val < s.cfg.nInst →
    encode (.clearBuffer i) = [0x00, 0x70 ||| BitVec.ofNat 8 i.val] ∧
    exec (.clearBuffer i) s =
      .next { s with
        head := 0, tail := 0, count := 0, ovf := false
        res := 0, reslog := s.reslog ++ [0], cp := s.cp + 2 }

/-- R85 P1, the buffer as a queue: Push appends to the bytes held unless 75 are; READ returns and removes the
first, PEEK returns it, AVAILABLE returns how many there are, CLEAR_BUFFER leaves none. -/
def Obligations.BufferIsABoundedQueue : Prop :=
  ∀ s : State, BufferInv s →
    (bufferContents s).length = s.count.val ∧
    (∀ v : Byte, bufferContents (push v s) =
      if s.count.val < 75 then bufferContents s ++ [v] else bufferContents s) ∧
    (∀ i : InstId, i.val < s.cfg.nInst →
      (∀ b bs, bufferContents s = b :: bs →
        (∃ t, exec (.read i) s = .next t ∧ t.res.toNat = b.toNat ∧ bufferContents t = bs) ∧
        (∃ t, exec (.peek i) s = .next t ∧ t.res.toNat = b.toNat ∧ bufferContents t = b :: bs)) ∧
      (∃ t, exec (.available i) s = .next t ∧ t.res.toNat = (bufferContents s).length) ∧
      (∃ t, exec (.clearBuffer i) s = .next t ∧ bufferContents t = [] ∧ t.ovf = false))

/-- R85 P2: of bytes pushed into an empty buffer with no read between, exactly the first CAP are held, in order,
and the overflow flag is set when there was one more. -/
def Obligations.OverflowKeepsTheFirstBytes : Prop :=
  ∀ (vs : List Byte) (s : State), BufferInv s → s.count.val = 0 → s.ovf = false →
    bufferContents (vs.foldl (fun u v => push v u) s) = vs.take 75 ∧
    ((vs.foldl (fun u v => push v u) s).ovf = true ↔ 75 < vs.length)

/-! ### The receiver (41_receiver.md) -/

/-- R67: the parity bit makes the number of set bits even and is accepted; with any one of the 8 bits flipped it is
not accepted. -/
def Obligations.ParityDetectsSingleFlips : Prop :=
  ∀ (d : BitVec 7),
    ((List.range 7).countP d.getLsbD + (if parity7 d then 1 else 0)) % 2 = 0 ∧
    parityOK d (parity7 d) = true ∧ parityOK d (!parity7 d) = false ∧
    (∀ k : Fin 7, parityOK (d ^^^ (1#7 <<< k.val)) (parity7 d) = false)

/-- R72, R73: the sample phase takes the sample that is due, and only that; the ninth completes the character. -/
def Obligations.SamplerTakesTheDueSample : Prop :=
  ∀ (lvl : PinId → Level) (s : State), (s.rxBusy = false → samplePhase lvl s = s) ∧ ∀ a : InstId, s.reg = some a →
    (s.rxBusy = true → ((s.now - s.rxT0).toNat ≠ (s.rxN.val + 1) * s.cfg.bitTicks + s.cfg.bitTicks / 2) →
      samplePhase lvl s = s) ∧
    (s.rxBusy = true → ((s.now - s.rxT0).toNat = (s.rxN.val + 1) * s.cfg.bitTicks + s.cfg.bitTicks / 2) →
      ∃ pat : BitVec 9,
        (∀ k, pat.getLsbD k = if k = s.rxN.val then decide (lvl (s.pin a) = .mark) else s.rxPat.getLsbD k) ∧
        (∀ h : s.rxN.val < 8,
          samplePhase lvl s = { s with rxPat := pat, rxN := ⟨s.rxN.val + 1, by omega⟩ }) ∧
        (s.rxN.val = 8 →
          (pat.getLsbD 8 = true ∧ pat.getLsbD 7 = parity7 (pat.extractLsb' 0 7) →
            samplePhase lvl s =
              { push ((pat.extractLsb' 0 7).setWidth 8) s with rxBusy := false, rxN := 0, rxPat := 0 }) ∧
          (¬(pat.getLsbD 8 = true ∧ pat.getLsbD 7 = parity7 (pat.extractLsb' 0 7)) →
            samplePhase lvl s = { s with rxBusy := false, rxN := 0, rxPat := 0 })))

/-- R69, R70, R71, R107: the interrupt phase starts an assembly exactly on a MARK-to-SPACE transition at the armed
instance's pin with none in progress, and changes nothing else ever. -/
def Obligations.InterruptStartsAssemblyOnFall : Prop :=
  ∀ (lvl : PinId → Level) (s : State),
    (∀ a, armed s a = true → s.rxBusy = false → prevLevel s (s.pin a) = .mark → lvl (s.pin a) = .space →
      interruptPhase lvl s = { s with rxBusy := true, rxT0 := s.now, rxN := 0, rxPat := 0 }) ∧
    ((∀ a, armed s a = true →
        s.rxBusy = true ∨ prevLevel s (s.pin a) = .space ∨ lvl (s.pin a) = .mark) →
      interruptPhase lvl s = s)

/-- R69, R106: with no instance armed and no assembly in progress, what the line does reaches nothing but the edge
detector's memory. -/
def Obligations.UnarmedReceiverIgnoresTheLine : Prop :=
  ∀ (d d' : Draw) (s : State), (∀ a, armed s a = false) → s.rxBusy = false →
    { tick d s with prev := [] } = { tick d' s with prev := [] }

/-- R66, R76, R91, R73: a character sent with bit period `b` is sampled right by a receiver with bit period `w`
when every sample point falls inside its own frame bit, and that is so for b = w. -/
def Obligations.SampledWaveformIsTheCharacter : Prop :=
  (∀ (w b : Nat) (c : Byte),
    (∀ k, k ≤ 8 → (k + 1) * b ≤ sampleOffset w k ∧ sampleOffset w k < (k + 2) * b) →
    ∀ v : Nat → Level, (∀ k, k ≤ 8 → levelAt (charSegs b c) (sampleOffset w k) = some (v k)) →
      patValid (samplePattern v) = true ∧ patData (samplePattern v) = c.setWidth 7) ∧
  (∀ w k, 1 ≤ w → (k + 1) * w ≤ sampleOffset w k ∧ sampleOffset w k < (k + 2) * w)

/-- R70, R72, R73, R75 over a whole character, whatever the line does between the sample points and at whatever
tick count it starts: after the start edge the nine samples alone decide what is pushed. `s.cfg.ok` includes the bound
of log 11. -/
def Obligations.NineSamplesDecideTheCharacter : Prop :=
  ∀ (s : State) (a : InstId) (ds : List Draw),
    s.cfg.ok → BufferInv s → armed s a = true → s.rxBusy = false →
    ds.length = sampleOffset s.cfg.bitTicks 8 + 1 →
    prevLevel s (s.pin a) = .mark → lineAt ds s (s.pin a) 0 = .space →
    let pat := samplePattern (fun k => lineAt ds s (s.pin a) (sampleOffset s.cfg.bitTicks k))
    bufferContents (runTicks ds s) =
        (if patValid pat = true ∧ s.count.val < 75 then bufferContents s ++ [(patData pat).setWidth 8]
         else bufferContents s) ∧
    (runTicks ds s).ovf = (s.ovf || (patValid pat && decide (s.count.val = 75)))

/-- R74: the start bit is not checked again, so a glitch after which the nine samples read MARK is received as 0x7F.
R73: a character whose stop sample is SPACE, a break among them, is discarded whatever its other samples are. -/
def Obligations.GlitchIsReceivedBreakIsDiscarded : Prop :=
  ∀ (s : State) (a : InstId) (ds : List Draw),
    s.cfg.ok → BufferInv s → armed s a = true → s.rxBusy = false →
    ds.length = sampleOffset s.cfg.bitTicks 8 + 1 →
    prevLevel s (s.pin a) = .mark → lineAt ds s (s.pin a) 0 = .space →
    ((∀ k, k ≤ 8 → lineAt ds s (s.pin a) (sampleOffset s.cfg.bitTicks k) = .mark) ∧ s.count.val < 75 →
      bufferContents (runTicks ds s) = bufferContents s ++ [0x7F]) ∧
    (lineAt ds s (s.pin a) (sampleOffset s.cfg.bitTicks 8) = .space →
      bufferContents (runTicks ds s) = bufferContents s ∧ (runTicks ds s).ovf = s.ovf)

/-! ### The transmitter (44_transmitter.md) -/

/-- R94 with R93, R91: WRITE starts the frame of its character; nothing else changes but a dropped assembly. -/
def Obligations.WriteStartsOneFrame : Prop :=
  ∀ (i : InstId) (c : Byte) (s : State), i.val < s.cfg.nInst → 0 < s.cfg.bitTicks →
    encode (.write i c) = [c, 0x80 ||| BitVec.ofNat 8 i.val] ∧
    (s.st i = .disabled →
      exec (.write i c) s = .next { s with fault := some .state, faultCw := (Instr.write i c).cw, faultCp := s.cp }) ∧
    (s.st i ≠ .disabled →
      let drop := decide (s.st i = .listening ∧ s.reg = some i ∧ s.rxBusy = true)
      exec (.write i c) s =
        .next { s with
          insts := s.insts.set i { s.insts[i] with st := .transmitting }
          rxBusy := if drop then false else s.rxBusy
          rxN := if drop then 0 else s.rxN
          rxPat := if drop then 0 else s.rxPat
          txBusy := true, txInst := i, txLen := 2
          txSegs := charSegs s.cfg.bitTicks c, txLeft := BitVec.ofNat 32 s.cfg.bitTicks })

/-- R95 with R93: SEND_COMMAND starts with the break; a wake marking of no ticks is left out. -/
def Obligations.SendCommandStartsTheWakeSequence : Prop :=
  ∀ (i : InstId) (text : List Byte) (s : State), i.val < s.cfg.nInst → s.cfg.ok →
    encode (.sendCommand i text) = BitVec.ofNat 8 text.length :: (0x88 ||| BitVec.ofNat 8 i.val) :: text ∧
    (s.st i = .disabled →
      exec (.sendCommand i text) s =
        .next { s with fault := some .state, faultCw := (Instr.sendCommand i text).cw, faultCp := s.cp }) ∧
    (s.st i ≠ .disabled →
      let drop := decide (s.st i = .listening ∧ s.reg = some i ∧ s.rxBusy = true)
      let wake := if s.cfg.wakeMarkTicks = 0 then [] else [(⟨.mark, s.cfg.wakeMarkTicks⟩ : Seg)]
      exec (.sendCommand i text) s =
        .next { s with
          insts := s.insts.set i { s.insts[i] with st := .transmitting }
          rxBusy := if drop then false else s.rxBusy
          rxN := if drop then 0 else s.rxN
          rxPat := if drop then 0 else s.rxPat
          txBusy := true, txInst := i, txLen := 2 + text.length
          txSegs := ⟨.space, s.cfg.breakTicks⟩ :: (wake ++ text.flatMap (charSegs s.cfg.bitTicks))
          txLeft := BitVec.ofNat 32 s.cfg.breakTicks })

/-- R96 with R93, R98: SEND_RESPONSE starts with the marking; one with nothing to drive completes at once. -/
def Obligations.SendResponseMarksThenSends : Prop :=
  ∀ (i : InstId) (text : List Byte) (s : State), i.val < s.cfg.nInst → s.cfg.ok →
    encode (.sendResponse i text) = BitVec.ofNat 8 text.length :: (0x90 ||| BitVec.ofNat 8 i.val) :: text ∧
    (s.st i = .disabled →
      exec (.sendResponse i text) s =
        .next { s with fault := some .state, faultCw := (Instr.sendResponse i text).cw, faultCp := s.cp }) ∧
    (s.st i ≠ .disabled →
      let drop := decide (s.st i = .listening ∧ s.reg = some i ∧ s.rxBusy = true)
      let mark := if s.cfg.respMarkTicks = 0 then [] else [(⟨.mark, s.cfg.respMarkTicks⟩ : Seg)]
      (∀ g gs, mark ++ text.flatMap (charSegs s.cfg.bitTicks) = g :: gs →
        exec (.sendResponse i text) s =
          .next { s with
            insts := s.insts.set i { s.insts[i] with st := .transmitting }
            rxBusy := if drop then false else s.rxBusy
            rxN := if drop then 0 else s.rxN
            rxPat := if drop then 0 else s.rxPat
            txBusy := true, txInst := i, txLen := 2 + text.length
            txSegs := g :: gs, txLeft := BitVec.ofNat 32 g.ticks }) ∧
      (s.cfg.respMarkTicks = 0 ∧ text = [] →
        exec (.sendResponse i text) s =
          .next { s with
            insts := s.insts.set i { s.insts[i] with st := .listening }
            rxBusy := if drop then false else s.rxBusy
            rxN := if drop then 0 else s.rxN
            rxPat := if drop then 0 else s.rxPat
            txBusy := false, txLen := 0, txSegs := [], txLeft := 0
            res := 0, reslog := s.reslog ++ [0], cp := s.cp + 2 }))

/-- R97, R98: what one tick does to the transmitter and, at the end of a frame, to the host's registers. -/
def Obligations.TickAdvancesTheTransmitter : Prop :=
  ∀ (d : Draw) (s : State),
    (s.txBusy = false →
      (tick d s).txBusy = false ∧ (tick d s).txSegs = s.txSegs ∧ (tick d s).txLeft = s.txLeft ∧
      (tick d s).insts = s.insts ∧
      (tick d s).res = s.res ∧ (tick d s).reslog = s.reslog ∧ (tick d s).cp = s.cp) ∧
    (s.txBusy = true ∧ s.txLeft ≠ 1 →
      (tick d s).txBusy = true ∧ (tick d s).txSegs = s.txSegs ∧ (tick d s).txLeft = s.txLeft - 1 ∧
      (tick d s).insts = s.insts ∧
      (tick d s).res = s.res ∧ (tick d s).reslog = s.reslog ∧ (tick d s).cp = s.cp) ∧
    (∀ g0 g gs, s.txBusy = true ∧ s.txLeft = 1 ∧ s.txSegs = g0 :: g :: gs →
      (tick d s).txBusy = true ∧ (tick d s).txSegs = g :: gs ∧ (tick d s).txLeft = BitVec.ofNat 32 g.ticks ∧
      (tick d s).insts = s.insts ∧
      (tick d s).res = s.res ∧ (tick d s).reslog = s.reslog ∧ (tick d s).cp = s.cp) ∧
    (∀ g0, s.txBusy = true ∧ s.txLeft = 1 ∧ s.txSegs = [g0] →
      (tick d s).txBusy = false ∧ (tick d s).txSegs = [] ∧ (tick d s).txLeft = 0 ∧
      (tick d s).insts = s.insts.set s.txInst { s.insts[s.txInst] with st := .listening } ∧
      (tick d s).res = 0 ∧ (tick d s).reslog = s.reslog ++ [0] ∧
      (tick d s).cp = s.cp + BitVec.ofNat 32 s.txLen)

/-- R131, R94, R95, R96, R97, R98: a transmit command on an enabled instance drives its segments tick by tick, HOST
waiting, and is complete after exactly as many ticks as they last, the instance then LISTENING. `s.cfg.ok` bounds the
durations by 2^32 (log 11). -/
def Obligations.TransmissionLastsItsTicks : Prop :=
  ∀ (i : InstId) (s : State) (c : Instr) (segs : List Seg) (n : Nat),
    s.cfg.ok → i.val < s.cfg.nInst → s.st i ≠ .disabled →
    ((∃ b, c = .write i b ∧ segs = charSegs s.cfg.bitTicks b ∧ n = 10 * s.cfg.bitTicks) ∨
     (∃ text, c = .sendCommand i text ∧ segs = commandSegs s.cfg text ∧
        n = s.cfg.breakTicks + s.cfg.wakeMarkTicks + 10 * s.cfg.bitTicks * text.length) ∨
     (∃ text, c = .sendResponse i text ∧ segs = responseSegs s.cfg text ∧
        n = s.cfg.respMarkTicks + 10 * s.cfg.bitTicks * text.length)) →
    ∃ t, exec c s = .next t ∧
      (∀ ds : List Draw, ds.length < n →
        (runTicks ds t).txBusy = true ∧ (runTicks ds t).st i = .transmitting ∧
        drv (runTicks ds t) i = levelAt segs ds.length ∧ (runTicks ds t).reslog = s.reslog) ∧
      (∀ ds : List Draw, ds.length = n →
        (runTicks ds t).txBusy = false ∧ (runTicks ds t).st i = .listening ∧
        (runTicks ds t).res = 0 ∧ (runTicks ds t).reslog = s.reslog ++ [0] ∧
        (runTicks ds t).cp = s.cp + BitVec.ofNat 32 c.length)

/-- R127, R98, R100: an instance does not receive what it sends itself. The active instance is disarmed while it
transmits, no character reaches the buffer and no assembly is begun, and it is armed again when its frame has ended. -/
def Obligations.OwnTransmissionIsNotReceived : Prop :=
  ∀ (i : InstId) (s : State) (c : Instr) (n : Nat),
    LineInv s → i.val < s.cfg.nInst → s.reg = some i →
    ((∃ b, c = .write i b ∧ n = 10 * s.cfg.bitTicks) ∨
     (∃ text, c = .sendCommand i text ∧
        n = s.cfg.breakTicks + s.cfg.wakeMarkTicks + 10 * s.cfg.bitTicks * text.length) ∨
     (∃ text, c = .sendResponse i text ∧ n = s.cfg.respMarkTicks + 10 * s.cfg.bitTicks * text.length)) →
    ∃ t, exec c s = .next t ∧
      (∀ ds : List Draw, ds.length < n → armed (runTicks ds t) i = false) ∧
      (∀ ds : List Draw, ds.length = n →
        armed (runTicks ds t) i = true ∧ (runTicks ds t).rxBusy = false ∧
        (runTicks ds t).slots = s.slots ∧ (runTicks ds t).head = s.head ∧ (runTicks ds t).tail = s.tail ∧
        (runTicks ds t).count = s.count ∧ (runTicks ds t).ovf = s.ovf)

/-- R101, property P5: what instance A sends by SEND_COMMAND, the armed instance B on the same net receives, byte for
byte and in order, under the conditions of R101 and with room in the buffer. `s.cfg.ok` bounds the durations by 2^32,
which R101 does not: that is the model's choice (log 11). -/
def Obligations.RoundTripBetweenTwoInstances : Prop :=
  ∀ (s : State) (a b : InstId) (text : List Byte),
    s.cfg.ok → BufferInv s → a ≠ b →
    a.val < s.cfg.nInst → s.st a ≠ .disabled →
    armed s b = true → s.rxBusy = false → (s.pin b).toNat < s.cfg.nPins →
    netOf s.cfg (s.pin a) = netOf s.cfg (s.pin b) →
    (∀ j : InstId, j ≠ a → drives s j = true → netOf s.cfg (s.pin j) ≠ netOf s.cfg (s.pin b)) →
    sampleOffset s.cfg.bitTicks 8 + 1 ≤ s.cfg.breakTicks → 1 ≤ s.cfg.wakeMarkTicks →
    (∀ c ∈ text, c.toNat < 0x80) → s.count.val + text.length ≤ 75 →
    ∃ t, exec (.sendCommand a text) s = .next t ∧
      ∀ ds : List Draw,
        ds.length = s.cfg.breakTicks + s.cfg.wakeMarkTicks + 10 * s.cfg.bitTicks * text.length →
        (∀ d ∈ ds, extDrive d (netOf s.cfg (s.pin b)) = .release) →
        bufferContents (runTicks ds t) = bufferContents s ++ text ∧ (runTicks ds t).ovf = s.ovf

/-! ### Pins (20_memory.md) -/

/-- R40, R28: which instances drive their pin, and to what; the transmit-enable output says so. -/
def Obligations.InstancesDriveByLineState : Prop :=
  ∀ (s : State) (i : InstId),
    (s.st i = .holding → drv s i = some .mark) ∧
    (∀ g gs, s.st i = .transmitting → s.txSegs = g :: gs → drv s i = some g.level) ∧
    (s.st i = .disabled ∨ s.st i = .enabled ∨ s.st i = .listening → drv s i = none) ∧
    (drives s i = true ↔ s.st i = .holding ∨ s.st i = .transmitting) ∧ txen s i = drives s i

/-- R41: a net nobody drives has PULL_LEVEL, one all of whose drivers agree has their level, and on one with
different drivers ENV's draw can make it either level. -/
def Obligations.NetLevelsResolve : Prop :=
  ∀ (d : Draw) (s : State) (p : PinId),
    let n := netOf s.cfg p
    let driven (v : Level) := (∃ i : InstId, i.val < s.cfg.nInst ∧ netOf s.cfg (s.pin i) = n ∧ drv s i = some v) ∨
      extDrive d n = .drive v
    (¬driven .mark ∧ ¬driven .space → pinLevel d s p = s.cfg.pullLevel) ∧
    (driven .mark ∧ ¬driven .space → pinLevel d s p = .mark) ∧
    (driven .space ∧ ¬driven .mark → pinLevel d s p = .space) ∧
    (driven .mark ∧ driven .space →
      ∀ v, pinLevel { d with contention := (n, v) :: d.contention } s p = v)

/-! ### Whole-machine rules -/

/-- R26, R27, property P4: what armed and sensitive mean; at most one instance is armed, and it is sensitive. -/
def Obligations.AtMostOneInstanceIsArmed : Prop :=
  ∀ (s : State) (i : InstId),
    (armed s i = true ↔ s.reg = some i ∧ s.st i = .listening) ∧ (sens s i = true ↔ s.st i ≠ .disabled) ∧
    (armed s i = true → sens s i = true ∧ ∀ j, armed s j = true → j = i)

/-- R33, the host's side: no command writes a slot, moves `head` except to clear, raises `count` or sets `ovf`; nor
does any write the clock, the edge detector, the start stamp, the parameters or the stream (R22, R45). -/
def Obligations.CommandsOnlyDrainTheBuffer : Prop :=
  ∀ (c : Instr) (s t : State), exec c s = .next t →
    t.slots = s.slots ∧ (t.head = s.head ∨ t.count = 0 ∧ t.tail = 0 ∧ t.head = 0) ∧ t.count ≤ s.count ∧
    (t.ovf = true → s.ovf = true) ∧
    t.now = s.now ∧ t.prev = s.prev ∧ t.rxT0 = s.rxT0 ∧ t.cfg = s.cfg ∧ t.stream = s.stream ∧
    (t.rxBusy = true → s.rxBusy = true ∧ t.rxN = s.rxN ∧ t.rxPat = s.rxPat)

/-- R33, the receiver's side, and the frame of a tick: it drains nothing, clears no flag, writes no slot but `head`,
and leaves the registry, pins, timeouts, fault registers and stream alone; the clock counts and the edge detector
remembers (R22, R21, R68). The buffer is left as the sample phase leaves it, and the assembly as the interrupt phase
after the sample phase does, both with the levels the tick begins with: a stop sample and a new start edge in one tick
complete the old character and begin the new one (R110, R122). A line state changes only from TRANSMITTING's instance
to LISTENING (R98). -/
def Obligations.TickFrame : Prop :=
  ∀ (d : Draw) (s : State),
    (tick d s).now = s.now + 1 ∧
    (tick d s).prev = (List.range s.cfg.nPins).map (fun k => pinLevel d s (BitVec.ofNat 8 k)) ∧
    (tick d s).tail = s.tail ∧ s.count ≤ (tick d s).count ∧ (s.ovf = true → (tick d s).ovf = true) ∧
    (∀ k, k ≠ s.head → memRead (tick d s) k = memRead s k) ∧
    (let lvl := pinLevel d s
     let u := samplePhase lvl s
     let v := interruptPhase lvl u
     (tick d s).slots = u.slots ∧ (tick d s).head = u.head ∧ (tick d s).count = u.count ∧ (tick d s).ovf = u.ovf ∧
     (tick d s).rxBusy = v.rxBusy ∧ (tick d s).rxN = v.rxN ∧ (tick d s).rxPat = v.rxPat ∧
     (tick d s).rxT0 = v.rxT0) ∧
    (tick d s).cfg = s.cfg ∧ (tick d s).reg = s.reg ∧ (tick d s).stream = s.stream ∧
    (tick d s).fault = s.fault ∧ (tick d s).faultCw = s.faultCw ∧ (tick d s).faultCp = s.faultCp ∧
    (tick d s).txInst = s.txInst ∧ (tick d s).inputs = s.inputs ∧ (tick d s).drawIndex = s.drawIndex ∧
    (∀ i, (tick d s).pin i = s.pin i ∧ (tick d s).tmo i = s.tmo i ∧
      ((tick d s).st i = s.st i ∨ s.txBusy = true ∧ i = s.txInst ∧ (tick d s).st i = .listening))

/-- R56: the transitions of the line states. A command changes at most the line state of the instance it names, and
only along the table; LISTENING is reached by FORCE_LISTEN, and within the command by a SEND_RESPONSE that has nothing
to drive (R93, R96). -/
def Obligations.TransitionGraph : Prop :=
  ∀ (c : Instr) (s t : State), s.cfg.ok → exec c s = .next t →
    (∀ j, j ≠ c.inst → t.st j = s.st j) ∧
    (t.st c.inst ≠ s.st c.inst →
      (t.st c.inst = .enabled → s.st c.inst = .disabled ∧ (c.opcode = 0x01 ∨ c.opcode = 0x02)) ∧
      (t.st c.inst = .disabled → c.opcode = 0x03) ∧
      (t.st c.inst = .holding → s.st c.inst ≠ .disabled ∧ c.opcode = 0x04) ∧
      (t.st c.inst = .listening → s.st c.inst ≠ .disabled ∧
        (c.opcode = 0x05 ∨ c.opcode = 0x12 ∧ c.text = [] ∧ s.cfg.respMarkTicks = 0)) ∧
      (t.st c.inst = .transmitting → s.st c.inst ≠ .disabled ∧ t.txBusy = true ∧ 0x10 ≤ c.opcode.toNat))

/-- R55, R120: the boot sequence INIT i, p, run on a block with i DISABLED and the pin free, arms instance i. -/
def Obligations.InitArmsTheInstance : Prop :=
  ∀ (i : InstId) (p : PinId) (s : State), i.val < s.cfg.nInst → p.toNat < s.cfg.nPins →
    s.st i = .disabled → s.reg ≠ some i → s.txBusy = false → s.rxBusy = false →
    (∀ j : InstId, j ≠ i → s.st j ≠ .disabled → s.pin j ≠ p) →
    ∃ t u v, exec (.beginPin i p) s = .next t ∧ exec (.setActive i) t = .next u ∧
      exec (.forceListen i) u = .next v ∧ Pseudo.expand (.init i p) = [.beginPin i p, .setActive i, .forceListen i] ∧
      armed v i = true ∧ v.pin i = p ∧ v.reslog = s.reslog ++ [0, 1, 0] ∧ v.fault = s.fault

/-! ### Reset (70_reset_and_hazards.md) -/

/-- R118, for every parameter record and stream. R118 leaves the slots unspecified: that they hold the free values
`Config.slotInit` is the model's choice (log 4). -/
def Obligations.ResetValues : Prop :=
  ∀ (p : Params) (prog : List Byte),
    let s := State.resetWith p prog
    (∀ i : InstId, s.st i = .disabled ∧ s.pin i = p.pinInit[i] ∧ s.tmo i = p.timeoutInit ∧
      armed s i = false ∧ drives s i = false ∧ txen s i = false) ∧
    regCode s.reg = 0xF ∧ (∀ k, memRead s k = Config.slotInit k.val) ∧
    s.head.val = 0 ∧ s.tail.val = 0 ∧ s.count.val = 0 ∧ s.ovf = false ∧
    s.rxBusy = false ∧ s.rxN.val = 0 ∧ s.rxPat = 0 ∧ s.rxT0 = 0 ∧
    s.txBusy = false ∧ s.txInst.val = 0 ∧ s.txSegs = [] ∧ s.txLeft = 0 ∧
    s.prev.length = p.nPins ∧ (∀ pin : PinId, pin.toNat < p.nPins → prevLevel s pin = p.pullLevel) ∧ s.now = 0 ∧
    faultCode s.fault = 0 ∧ s.faultCw = 0 ∧ s.faultCp = 0 ∧ s.cp = 0 ∧ s.res = 0 ∧ s.reslog = []

/-- The invariants hold after reset, for parameters in range and an admitted stream. The machine `State.reset` is such
a one; which, is the model's choice (log 2, log 8). -/
def Obligations.ResetMeetsTheInvariants : Prop :=
  (∀ (p : Params) (prog : List Byte), p.ok → prog.length < 2 ^ 32 →
    let s := State.resetWith p prog
    BufferInv s ∧ LineInv s ∧ SamplingInv s ∧ HostInv s) ∧
  ∃ p prog, p.ok ∧ State.reset = State.resetWith p prog

/-! ### Invariants every step keeps (10_state.md R30) -/

/-- The slots keep their canonical form (20_memory.md R32: no index is outside 0..CAP-1). -/
def Obligations.StepKeepsTheSlotsCanonical : Prop :=
  ∀ s t : State, step s = .next t → Memory.wf s.slots = true → Memory.wf t.slots = true

/-- R30(a), R30(c): the ring's indices agree, and what is held was written, with bit 7 clear. -/
def Obligations.StepKeepsTheBufferInvariant : Prop :=
  ∀ s t : State, step s = .next t → BufferInv s → BufferInv t

/-- R30(b), (d), (e), (f): registry, assembly, transmitter and pins. -/
def Obligations.StepKeepsTheLineInvariant : Prop :=
  ∀ s t : State, step s = .next t → LineInv s → LineInv t

/-- No sample point is missed (R66, R72, R75). -/
def Obligations.StepKeepsTheSamplingInvariant : Prop :=
  ∀ s t : State, step s = .next t → LineInv s → SamplingInv s → SamplingInv t

/-- R12, R23, R24: the command pointer stays inside the stream; `res` is the last result; the fault registers. -/
def Obligations.StepKeepsTheHostInvariant : Prop :=
  ∀ s t : State, step s = .next t → HostInv s → HostInv t

/-- R6, R45: no step changes a parameter or the command stream. -/
def Obligations.StepKeepsParametersAndStream : Prop :=
  ∀ s t : State, step s = .next t → t.cfg = s.cfg ∧ t.stream = s.stream
end

