-- ==== Sys2Proof/Laws/State.lean ====
section
/-! SUPPORT. What every update of the state leaves in every field, true by rfl, so that no proof unfolds a record
update; and the registers of an instance after a write (R13, R14, R15). -/

namespace Sys2Proof.Machine

/-! ### `st[i] <- v` (R13) -/

@[simp] theorem setSt_cfg (i : InstId) (v : LineState) (s : State) : (s.setSt i v).cfg = s.cfg := rfl
@[simp] theorem setSt_insts (i : InstId) (v : LineState) (s : State) : (s.setSt i v).insts = s.insts.set i { s.insts[i] with st := v } := rfl
@[simp] theorem setSt_reg (i : InstId) (v : LineState) (s : State) : (s.setSt i v).reg = s.reg := rfl
@[simp] theorem setSt_slots (i : InstId) (v : LineState) (s : State) : (s.setSt i v).slots = s.slots := rfl
@[simp] theorem setSt_head (i : InstId) (v : LineState) (s : State) : (s.setSt i v).head = s.head := rfl
@[simp] theorem setSt_tail (i : InstId) (v : LineState) (s : State) : (s.setSt i v).tail = s.tail := rfl
@[simp] theorem setSt_count (i : InstId) (v : LineState) (s : State) : (s.setSt i v).count = s.count := rfl
@[simp] theorem setSt_ovf (i : InstId) (v : LineState) (s : State) : (s.setSt i v).ovf = s.ovf := rfl
@[simp] theorem setSt_rxBusy (i : InstId) (v : LineState) (s : State) : (s.setSt i v).rxBusy = s.rxBusy := rfl
@[simp] theorem setSt_rxN (i : InstId) (v : LineState) (s : State) : (s.setSt i v).rxN = s.rxN := rfl
@[simp] theorem setSt_rxPat (i : InstId) (v : LineState) (s : State) : (s.setSt i v).rxPat = s.rxPat := rfl
@[simp] theorem setSt_rxT0 (i : InstId) (v : LineState) (s : State) : (s.setSt i v).rxT0 = s.rxT0 := rfl
@[simp] theorem setSt_txBusy (i : InstId) (v : LineState) (s : State) : (s.setSt i v).txBusy = s.txBusy := rfl
@[simp] theorem setSt_txInst (i : InstId) (v : LineState) (s : State) : (s.setSt i v).txInst = s.txInst := rfl
@[simp] theorem setSt_txSegs (i : InstId) (v : LineState) (s : State) : (s.setSt i v).txSegs = s.txSegs := rfl
@[simp] theorem setSt_txLeft (i : InstId) (v : LineState) (s : State) : (s.setSt i v).txLeft = s.txLeft := rfl
@[simp] theorem setSt_txLen (i : InstId) (v : LineState) (s : State) : (s.setSt i v).txLen = s.txLen := rfl
@[simp] theorem setSt_prev (i : InstId) (v : LineState) (s : State) : (s.setSt i v).prev = s.prev := rfl
@[simp] theorem setSt_now (i : InstId) (v : LineState) (s : State) : (s.setSt i v).now = s.now := rfl
@[simp] theorem setSt_fault (i : InstId) (v : LineState) (s : State) : (s.setSt i v).fault = s.fault := rfl
@[simp] theorem setSt_faultCw (i : InstId) (v : LineState) (s : State) : (s.setSt i v).faultCw = s.faultCw := rfl
@[simp] theorem setSt_faultCp (i : InstId) (v : LineState) (s : State) : (s.setSt i v).faultCp = s.faultCp := rfl
@[simp] theorem setSt_stream (i : InstId) (v : LineState) (s : State) : (s.setSt i v).stream = s.stream := rfl
@[simp] theorem setSt_cp (i : InstId) (v : LineState) (s : State) : (s.setSt i v).cp = s.cp := rfl
@[simp] theorem setSt_res (i : InstId) (v : LineState) (s : State) : (s.setSt i v).res = s.res := rfl
@[simp] theorem setSt_reslog (i : InstId) (v : LineState) (s : State) : (s.setSt i v).reslog = s.reslog := rfl
@[simp] theorem setSt_inputs (i : InstId) (v : LineState) (s : State) : (s.setSt i v).inputs = s.inputs := rfl
@[simp] theorem setSt_drawIndex (i : InstId) (v : LineState) (s : State) : (s.setSt i v).drawIndex = s.drawIndex := rfl

/-! ### `pin[i] <- v` (R14) -/

@[simp] theorem setPin_cfg (i : InstId) (v : PinId) (s : State) : (s.setPin i v).cfg = s.cfg := rfl
@[simp] theorem setPin_insts (i : InstId) (v : PinId) (s : State) : (s.setPin i v).insts = s.insts.set i { s.insts[i] with pin := v } := rfl
@[simp] theorem setPin_reg (i : InstId) (v : PinId) (s : State) : (s.setPin i v).reg = s.reg := rfl
@[simp] theorem setPin_slots (i : InstId) (v : PinId) (s : State) : (s.setPin i v).slots = s.slots := rfl
@[simp] theorem setPin_head (i : InstId) (v : PinId) (s : State) : (s.setPin i v).head = s.head := rfl
@[simp] theorem setPin_tail (i : InstId) (v : PinId) (s : State) : (s.setPin i v).tail = s.tail := rfl
@[simp] theorem setPin_count (i : InstId) (v : PinId) (s : State) : (s.setPin i v).count = s.count := rfl
@[simp] theorem setPin_ovf (i : InstId) (v : PinId) (s : State) : (s.setPin i v).ovf = s.ovf := rfl
@[simp] theorem setPin_rxBusy (i : InstId) (v : PinId) (s : State) : (s.setPin i v).rxBusy = s.rxBusy := rfl
@[simp] theorem setPin_rxN (i : InstId) (v : PinId) (s : State) : (s.setPin i v).rxN = s.rxN := rfl
@[simp] theorem setPin_rxPat (i : InstId) (v : PinId) (s : State) : (s.setPin i v).rxPat = s.rxPat := rfl
@[simp] theorem setPin_rxT0 (i : InstId) (v : PinId) (s : State) : (s.setPin i v).rxT0 = s.rxT0 := rfl
@[simp] theorem setPin_txBusy (i : InstId) (v : PinId) (s : State) : (s.setPin i v).txBusy = s.txBusy := rfl
@[simp] theorem setPin_txInst (i : InstId) (v : PinId) (s : State) : (s.setPin i v).txInst = s.txInst := rfl
@[simp] theorem setPin_txSegs (i : InstId) (v : PinId) (s : State) : (s.setPin i v).txSegs = s.txSegs := rfl
@[simp] theorem setPin_txLeft (i : InstId) (v : PinId) (s : State) : (s.setPin i v).txLeft = s.txLeft := rfl
@[simp] theorem setPin_txLen (i : InstId) (v : PinId) (s : State) : (s.setPin i v).txLen = s.txLen := rfl
@[simp] theorem setPin_prev (i : InstId) (v : PinId) (s : State) : (s.setPin i v).prev = s.prev := rfl
@[simp] theorem setPin_now (i : InstId) (v : PinId) (s : State) : (s.setPin i v).now = s.now := rfl
@[simp] theorem setPin_fault (i : InstId) (v : PinId) (s : State) : (s.setPin i v).fault = s.fault := rfl
@[simp] theorem setPin_faultCw (i : InstId) (v : PinId) (s : State) : (s.setPin i v).faultCw = s.faultCw := rfl
@[simp] theorem setPin_faultCp (i : InstId) (v : PinId) (s : State) : (s.setPin i v).faultCp = s.faultCp := rfl
@[simp] theorem setPin_stream (i : InstId) (v : PinId) (s : State) : (s.setPin i v).stream = s.stream := rfl
@[simp] theorem setPin_cp (i : InstId) (v : PinId) (s : State) : (s.setPin i v).cp = s.cp := rfl
@[simp] theorem setPin_res (i : InstId) (v : PinId) (s : State) : (s.setPin i v).res = s.res := rfl
@[simp] theorem setPin_reslog (i : InstId) (v : PinId) (s : State) : (s.setPin i v).reslog = s.reslog := rfl
@[simp] theorem setPin_inputs (i : InstId) (v : PinId) (s : State) : (s.setPin i v).inputs = s.inputs := rfl
@[simp] theorem setPin_drawIndex (i : InstId) (v : PinId) (s : State) : (s.setPin i v).drawIndex = s.drawIndex := rfl

/-! ### `tmo[i] <- v` (R15) -/

@[simp] theorem setTmo_cfg (i : InstId) (v : Word) (s : State) : (s.setTmo i v).cfg = s.cfg := rfl
@[simp] theorem setTmo_insts (i : InstId) (v : Word) (s : State) : (s.setTmo i v).insts = s.insts.set i { s.insts[i] with tmo := v } := rfl
@[simp] theorem setTmo_reg (i : InstId) (v : Word) (s : State) : (s.setTmo i v).reg = s.reg := rfl
@[simp] theorem setTmo_slots (i : InstId) (v : Word) (s : State) : (s.setTmo i v).slots = s.slots := rfl
@[simp] theorem setTmo_head (i : InstId) (v : Word) (s : State) : (s.setTmo i v).head = s.head := rfl
@[simp] theorem setTmo_tail (i : InstId) (v : Word) (s : State) : (s.setTmo i v).tail = s.tail := rfl
@[simp] theorem setTmo_count (i : InstId) (v : Word) (s : State) : (s.setTmo i v).count = s.count := rfl
@[simp] theorem setTmo_ovf (i : InstId) (v : Word) (s : State) : (s.setTmo i v).ovf = s.ovf := rfl
@[simp] theorem setTmo_rxBusy (i : InstId) (v : Word) (s : State) : (s.setTmo i v).rxBusy = s.rxBusy := rfl
@[simp] theorem setTmo_rxN (i : InstId) (v : Word) (s : State) : (s.setTmo i v).rxN = s.rxN := rfl
@[simp] theorem setTmo_rxPat (i : InstId) (v : Word) (s : State) : (s.setTmo i v).rxPat = s.rxPat := rfl
@[simp] theorem setTmo_rxT0 (i : InstId) (v : Word) (s : State) : (s.setTmo i v).rxT0 = s.rxT0 := rfl
@[simp] theorem setTmo_txBusy (i : InstId) (v : Word) (s : State) : (s.setTmo i v).txBusy = s.txBusy := rfl
@[simp] theorem setTmo_txInst (i : InstId) (v : Word) (s : State) : (s.setTmo i v).txInst = s.txInst := rfl
@[simp] theorem setTmo_txSegs (i : InstId) (v : Word) (s : State) : (s.setTmo i v).txSegs = s.txSegs := rfl
@[simp] theorem setTmo_txLeft (i : InstId) (v : Word) (s : State) : (s.setTmo i v).txLeft = s.txLeft := rfl
@[simp] theorem setTmo_txLen (i : InstId) (v : Word) (s : State) : (s.setTmo i v).txLen = s.txLen := rfl
@[simp] theorem setTmo_prev (i : InstId) (v : Word) (s : State) : (s.setTmo i v).prev = s.prev := rfl
@[simp] theorem setTmo_now (i : InstId) (v : Word) (s : State) : (s.setTmo i v).now = s.now := rfl
@[simp] theorem setTmo_fault (i : InstId) (v : Word) (s : State) : (s.setTmo i v).fault = s.fault := rfl
@[simp] theorem setTmo_faultCw (i : InstId) (v : Word) (s : State) : (s.setTmo i v).faultCw = s.faultCw := rfl
@[simp] theorem setTmo_faultCp (i : InstId) (v : Word) (s : State) : (s.setTmo i v).faultCp = s.faultCp := rfl
@[simp] theorem setTmo_stream (i : InstId) (v : Word) (s : State) : (s.setTmo i v).stream = s.stream := rfl
@[simp] theorem setTmo_cp (i : InstId) (v : Word) (s : State) : (s.setTmo i v).cp = s.cp := rfl
@[simp] theorem setTmo_res (i : InstId) (v : Word) (s : State) : (s.setTmo i v).res = s.res := rfl
@[simp] theorem setTmo_reslog (i : InstId) (v : Word) (s : State) : (s.setTmo i v).reslog = s.reslog := rfl
@[simp] theorem setTmo_inputs (i : InstId) (v : Word) (s : State) : (s.setTmo i v).inputs = s.inputs := rfl
@[simp] theorem setTmo_drawIndex (i : InstId) (v : Word) (s : State) : (s.setTmo i v).drawIndex = s.drawIndex := rfl

/-! ### `MemWrite` (R32) -/

@[simp] theorem memWrite_cfg (k : Fin 75) (v : Byte) (s : State) : (memWrite s k v).cfg = s.cfg := rfl
@[simp] theorem memWrite_insts (k : Fin 75) (v : Byte) (s : State) : (memWrite s k v).insts = s.insts := rfl
@[simp] theorem memWrite_reg (k : Fin 75) (v : Byte) (s : State) : (memWrite s k v).reg = s.reg := rfl
@[simp] theorem memWrite_slots (k : Fin 75) (v : Byte) (s : State) : (memWrite s k v).slots = Memory.write s.slots k.val v := rfl
@[simp] theorem memWrite_head (k : Fin 75) (v : Byte) (s : State) : (memWrite s k v).head = s.head := rfl
@[simp] theorem memWrite_tail (k : Fin 75) (v : Byte) (s : State) : (memWrite s k v).tail = s.tail := rfl
@[simp] theorem memWrite_count (k : Fin 75) (v : Byte) (s : State) : (memWrite s k v).count = s.count := rfl
@[simp] theorem memWrite_ovf (k : Fin 75) (v : Byte) (s : State) : (memWrite s k v).ovf = s.ovf := rfl
@[simp] theorem memWrite_rxBusy (k : Fin 75) (v : Byte) (s : State) : (memWrite s k v).rxBusy = s.rxBusy := rfl
@[simp] theorem memWrite_rxN (k : Fin 75) (v : Byte) (s : State) : (memWrite s k v).rxN = s.rxN := rfl
@[simp] theorem memWrite_rxPat (k : Fin 75) (v : Byte) (s : State) : (memWrite s k v).rxPat = s.rxPat := rfl
@[simp] theorem memWrite_rxT0 (k : Fin 75) (v : Byte) (s : State) : (memWrite s k v).rxT0 = s.rxT0 := rfl
@[simp] theorem memWrite_txBusy (k : Fin 75) (v : Byte) (s : State) : (memWrite s k v).txBusy = s.txBusy := rfl
@[simp] theorem memWrite_txInst (k : Fin 75) (v : Byte) (s : State) : (memWrite s k v).txInst = s.txInst := rfl
@[simp] theorem memWrite_txSegs (k : Fin 75) (v : Byte) (s : State) : (memWrite s k v).txSegs = s.txSegs := rfl
@[simp] theorem memWrite_txLeft (k : Fin 75) (v : Byte) (s : State) : (memWrite s k v).txLeft = s.txLeft := rfl
@[simp] theorem memWrite_txLen (k : Fin 75) (v : Byte) (s : State) : (memWrite s k v).txLen = s.txLen := rfl
@[simp] theorem memWrite_prev (k : Fin 75) (v : Byte) (s : State) : (memWrite s k v).prev = s.prev := rfl
@[simp] theorem memWrite_now (k : Fin 75) (v : Byte) (s : State) : (memWrite s k v).now = s.now := rfl
@[simp] theorem memWrite_fault (k : Fin 75) (v : Byte) (s : State) : (memWrite s k v).fault = s.fault := rfl
@[simp] theorem memWrite_faultCw (k : Fin 75) (v : Byte) (s : State) : (memWrite s k v).faultCw = s.faultCw := rfl
@[simp] theorem memWrite_faultCp (k : Fin 75) (v : Byte) (s : State) : (memWrite s k v).faultCp = s.faultCp := rfl
@[simp] theorem memWrite_stream (k : Fin 75) (v : Byte) (s : State) : (memWrite s k v).stream = s.stream := rfl
@[simp] theorem memWrite_cp (k : Fin 75) (v : Byte) (s : State) : (memWrite s k v).cp = s.cp := rfl
@[simp] theorem memWrite_res (k : Fin 75) (v : Byte) (s : State) : (memWrite s k v).res = s.res := rfl
@[simp] theorem memWrite_reslog (k : Fin 75) (v : Byte) (s : State) : (memWrite s k v).reslog = s.reslog := rfl
@[simp] theorem memWrite_inputs (k : Fin 75) (v : Byte) (s : State) : (memWrite s k v).inputs = s.inputs := rfl
@[simp] theorem memWrite_drawIndex (k : Fin 75) (v : Byte) (s : State) : (memWrite s k v).drawIndex = s.drawIndex := rfl

/-! ### `raise Fault` (R103) -/

@[simp] theorem raiseFault_cfg (c : Cause) (cw : Half) (s : State) : (raiseFault c cw s).cfg = s.cfg := rfl
@[simp] theorem raiseFault_insts (c : Cause) (cw : Half) (s : State) : (raiseFault c cw s).insts = s.insts := rfl
@[simp] theorem raiseFault_reg (c : Cause) (cw : Half) (s : State) : (raiseFault c cw s).reg = s.reg := rfl
@[simp] theorem raiseFault_slots (c : Cause) (cw : Half) (s : State) : (raiseFault c cw s).slots = s.slots := rfl
@[simp] theorem raiseFault_head (c : Cause) (cw : Half) (s : State) : (raiseFault c cw s).head = s.head := rfl
@[simp] theorem raiseFault_tail (c : Cause) (cw : Half) (s : State) : (raiseFault c cw s).tail = s.tail := rfl
@[simp] theorem raiseFault_count (c : Cause) (cw : Half) (s : State) : (raiseFault c cw s).count = s.count := rfl
@[simp] theorem raiseFault_ovf (c : Cause) (cw : Half) (s : State) : (raiseFault c cw s).ovf = s.ovf := rfl
@[simp] theorem raiseFault_rxBusy (c : Cause) (cw : Half) (s : State) : (raiseFault c cw s).rxBusy = s.rxBusy := rfl
@[simp] theorem raiseFault_rxN (c : Cause) (cw : Half) (s : State) : (raiseFault c cw s).rxN = s.rxN := rfl
@[simp] theorem raiseFault_rxPat (c : Cause) (cw : Half) (s : State) : (raiseFault c cw s).rxPat = s.rxPat := rfl
@[simp] theorem raiseFault_rxT0 (c : Cause) (cw : Half) (s : State) : (raiseFault c cw s).rxT0 = s.rxT0 := rfl
@[simp] theorem raiseFault_txBusy (c : Cause) (cw : Half) (s : State) : (raiseFault c cw s).txBusy = s.txBusy := rfl
@[simp] theorem raiseFault_txInst (c : Cause) (cw : Half) (s : State) : (raiseFault c cw s).txInst = s.txInst := rfl
@[simp] theorem raiseFault_txSegs (c : Cause) (cw : Half) (s : State) : (raiseFault c cw s).txSegs = s.txSegs := rfl
@[simp] theorem raiseFault_txLeft (c : Cause) (cw : Half) (s : State) : (raiseFault c cw s).txLeft = s.txLeft := rfl
@[simp] theorem raiseFault_txLen (c : Cause) (cw : Half) (s : State) : (raiseFault c cw s).txLen = s.txLen := rfl
@[simp] theorem raiseFault_prev (c : Cause) (cw : Half) (s : State) : (raiseFault c cw s).prev = s.prev := rfl
@[simp] theorem raiseFault_now (c : Cause) (cw : Half) (s : State) : (raiseFault c cw s).now = s.now := rfl
@[simp] theorem raiseFault_fault (c : Cause) (cw : Half) (s : State) : (raiseFault c cw s).fault = some c := rfl
@[simp] theorem raiseFault_faultCw (c : Cause) (cw : Half) (s : State) : (raiseFault c cw s).faultCw = cw := rfl
@[simp] theorem raiseFault_faultCp (c : Cause) (cw : Half) (s : State) : (raiseFault c cw s).faultCp = s.cp := rfl
@[simp] theorem raiseFault_stream (c : Cause) (cw : Half) (s : State) : (raiseFault c cw s).stream = s.stream := rfl
@[simp] theorem raiseFault_cp (c : Cause) (cw : Half) (s : State) : (raiseFault c cw s).cp = s.cp := rfl
@[simp] theorem raiseFault_res (c : Cause) (cw : Half) (s : State) : (raiseFault c cw s).res = s.res := rfl
@[simp] theorem raiseFault_reslog (c : Cause) (cw : Half) (s : State) : (raiseFault c cw s).reslog = s.reslog := rfl
@[simp] theorem raiseFault_inputs (c : Cause) (cw : Half) (s : State) : (raiseFault c cw s).inputs = s.inputs := rfl
@[simp] theorem raiseFault_drawIndex (c : Cause) (cw : Half) (s : State) : (raiseFault c cw s).drawIndex = s.drawIndex := rfl

/-! ### completion (R53) -/

@[simp] theorem retire_cfg (len : Nat) (w : Word) (s : State) : (retire len w s).cfg = s.cfg := rfl
@[simp] theorem retire_insts (len : Nat) (w : Word) (s : State) : (retire len w s).insts = s.insts := rfl
@[simp] theorem retire_reg (len : Nat) (w : Word) (s : State) : (retire len w s).reg = s.reg := rfl
@[simp] theorem retire_slots (len : Nat) (w : Word) (s : State) : (retire len w s).slots = s.slots := rfl
@[simp] theorem retire_head (len : Nat) (w : Word) (s : State) : (retire len w s).head = s.head := rfl
@[simp] theorem retire_tail (len : Nat) (w : Word) (s : State) : (retire len w s).tail = s.tail := rfl
@[simp] theorem retire_count (len : Nat) (w : Word) (s : State) : (retire len w s).count = s.count := rfl
@[simp] theorem retire_ovf (len : Nat) (w : Word) (s : State) : (retire len w s).ovf = s.ovf := rfl
@[simp] theorem retire_rxBusy (len : Nat) (w : Word) (s : State) : (retire len w s).rxBusy = s.rxBusy := rfl
@[simp] theorem retire_rxN (len : Nat) (w : Word) (s : State) : (retire len w s).rxN = s.rxN := rfl
@[simp] theorem retire_rxPat (len : Nat) (w : Word) (s : State) : (retire len w s).rxPat = s.rxPat := rfl
@[simp] theorem retire_rxT0 (len : Nat) (w : Word) (s : State) : (retire len w s).rxT0 = s.rxT0 := rfl
@[simp] theorem retire_txBusy (len : Nat) (w : Word) (s : State) : (retire len w s).txBusy = s.txBusy := rfl
@[simp] theorem retire_txInst (len : Nat) (w : Word) (s : State) : (retire len w s).txInst = s.txInst := rfl
@[simp] theorem retire_txSegs (len : Nat) (w : Word) (s : State) : (retire len w s).txSegs = s.txSegs := rfl
@[simp] theorem retire_txLeft (len : Nat) (w : Word) (s : State) : (retire len w s).txLeft = s.txLeft := rfl
@[simp] theorem retire_txLen (len : Nat) (w : Word) (s : State) : (retire len w s).txLen = s.txLen := rfl
@[simp] theorem retire_prev (len : Nat) (w : Word) (s : State) : (retire len w s).prev = s.prev := rfl
@[simp] theorem retire_now (len : Nat) (w : Word) (s : State) : (retire len w s).now = s.now := rfl
@[simp] theorem retire_fault (len : Nat) (w : Word) (s : State) : (retire len w s).fault = s.fault := rfl
@[simp] theorem retire_faultCw (len : Nat) (w : Word) (s : State) : (retire len w s).faultCw = s.faultCw := rfl
@[simp] theorem retire_faultCp (len : Nat) (w : Word) (s : State) : (retire len w s).faultCp = s.faultCp := rfl
@[simp] theorem retire_stream (len : Nat) (w : Word) (s : State) : (retire len w s).stream = s.stream := rfl
@[simp] theorem retire_cp (len : Nat) (w : Word) (s : State) : (retire len w s).cp = s.cp + BitVec.ofNat 32 len := rfl
@[simp] theorem retire_res (len : Nat) (w : Word) (s : State) : (retire len w s).res = w := rfl
@[simp] theorem retire_reslog (len : Nat) (w : Word) (s : State) : (retire len w s).reslog = s.reslog ++ [w] := rfl
@[simp] theorem retire_inputs (len : Nat) (w : Word) (s : State) : (retire len w s).inputs = s.inputs := rfl
@[simp] theorem retire_drawIndex (len : Nat) (w : Word) (s : State) : (retire len w s).drawIndex = s.drawIndex := rfl

/-! ### the assembly cleared (R58, R73) -/

@[simp] theorem clearAssembly_cfg  (s : State) : (clearAssembly s).cfg = s.cfg := rfl
@[simp] theorem clearAssembly_insts  (s : State) : (clearAssembly s).insts = s.insts := rfl
@[simp] theorem clearAssembly_reg  (s : State) : (clearAssembly s).reg = s.reg := rfl
@[simp] theorem clearAssembly_slots  (s : State) : (clearAssembly s).slots = s.slots := rfl
@[simp] theorem clearAssembly_head  (s : State) : (clearAssembly s).head = s.head := rfl
@[simp] theorem clearAssembly_tail  (s : State) : (clearAssembly s).tail = s.tail := rfl
@[simp] theorem clearAssembly_count  (s : State) : (clearAssembly s).count = s.count := rfl
@[simp] theorem clearAssembly_ovf  (s : State) : (clearAssembly s).ovf = s.ovf := rfl
@[simp] theorem clearAssembly_rxBusy  (s : State) : (clearAssembly s).rxBusy = false := rfl
@[simp] theorem clearAssembly_rxN  (s : State) : (clearAssembly s).rxN = 0 := rfl
@[simp] theorem clearAssembly_rxPat  (s : State) : (clearAssembly s).rxPat = 0 := rfl
@[simp] theorem clearAssembly_rxT0  (s : State) : (clearAssembly s).rxT0 = s.rxT0 := rfl
@[simp] theorem clearAssembly_txBusy  (s : State) : (clearAssembly s).txBusy = s.txBusy := rfl
@[simp] theorem clearAssembly_txInst  (s : State) : (clearAssembly s).txInst = s.txInst := rfl
@[simp] theorem clearAssembly_txSegs  (s : State) : (clearAssembly s).txSegs = s.txSegs := rfl
@[simp] theorem clearAssembly_txLeft  (s : State) : (clearAssembly s).txLeft = s.txLeft := rfl
@[simp] theorem clearAssembly_txLen  (s : State) : (clearAssembly s).txLen = s.txLen := rfl
@[simp] theorem clearAssembly_prev  (s : State) : (clearAssembly s).prev = s.prev := rfl
@[simp] theorem clearAssembly_now  (s : State) : (clearAssembly s).now = s.now := rfl
@[simp] theorem clearAssembly_fault  (s : State) : (clearAssembly s).fault = s.fault := rfl
@[simp] theorem clearAssembly_faultCw  (s : State) : (clearAssembly s).faultCw = s.faultCw := rfl
@[simp] theorem clearAssembly_faultCp  (s : State) : (clearAssembly s).faultCp = s.faultCp := rfl
@[simp] theorem clearAssembly_stream  (s : State) : (clearAssembly s).stream = s.stream := rfl
@[simp] theorem clearAssembly_cp  (s : State) : (clearAssembly s).cp = s.cp := rfl
@[simp] theorem clearAssembly_res  (s : State) : (clearAssembly s).res = s.res := rfl
@[simp] theorem clearAssembly_reslog  (s : State) : (clearAssembly s).reslog = s.reslog := rfl
@[simp] theorem clearAssembly_inputs  (s : State) : (clearAssembly s).inputs = s.inputs := rfl
@[simp] theorem clearAssembly_drawIndex  (s : State) : (clearAssembly s).drawIndex = s.drawIndex := rfl

/-! ### READ's removal (R82) -/

@[simp] theorem dropOldest_cfg  (s : State) : (dropOldest s).cfg = s.cfg := rfl
@[simp] theorem dropOldest_insts  (s : State) : (dropOldest s).insts = s.insts := rfl
@[simp] theorem dropOldest_reg  (s : State) : (dropOldest s).reg = s.reg := rfl
@[simp] theorem dropOldest_slots  (s : State) : (dropOldest s).slots = s.slots := rfl
@[simp] theorem dropOldest_head  (s : State) : (dropOldest s).head = s.head := rfl
@[simp] theorem dropOldest_tail  (s : State) : (dropOldest s).tail = nextSlot s.tail := rfl
@[simp] theorem dropOldest_count  (s : State) : (dropOldest s).count = ⟨s.count.val - 1, by have := s.count.isLt; omega⟩ := rfl
@[simp] theorem dropOldest_ovf  (s : State) : (dropOldest s).ovf = s.ovf := rfl
@[simp] theorem dropOldest_rxBusy  (s : State) : (dropOldest s).rxBusy = s.rxBusy := rfl
@[simp] theorem dropOldest_rxN  (s : State) : (dropOldest s).rxN = s.rxN := rfl
@[simp] theorem dropOldest_rxPat  (s : State) : (dropOldest s).rxPat = s.rxPat := rfl
@[simp] theorem dropOldest_rxT0  (s : State) : (dropOldest s).rxT0 = s.rxT0 := rfl
@[simp] theorem dropOldest_txBusy  (s : State) : (dropOldest s).txBusy = s.txBusy := rfl
@[simp] theorem dropOldest_txInst  (s : State) : (dropOldest s).txInst = s.txInst := rfl
@[simp] theorem dropOldest_txSegs  (s : State) : (dropOldest s).txSegs = s.txSegs := rfl
@[simp] theorem dropOldest_txLeft  (s : State) : (dropOldest s).txLeft = s.txLeft := rfl
@[simp] theorem dropOldest_txLen  (s : State) : (dropOldest s).txLen = s.txLen := rfl
@[simp] theorem dropOldest_prev  (s : State) : (dropOldest s).prev = s.prev := rfl
@[simp] theorem dropOldest_now  (s : State) : (dropOldest s).now = s.now := rfl
@[simp] theorem dropOldest_fault  (s : State) : (dropOldest s).fault = s.fault := rfl
@[simp] theorem dropOldest_faultCw  (s : State) : (dropOldest s).faultCw = s.faultCw := rfl
@[simp] theorem dropOldest_faultCp  (s : State) : (dropOldest s).faultCp = s.faultCp := rfl
@[simp] theorem dropOldest_stream  (s : State) : (dropOldest s).stream = s.stream := rfl
@[simp] theorem dropOldest_cp  (s : State) : (dropOldest s).cp = s.cp := rfl
@[simp] theorem dropOldest_res  (s : State) : (dropOldest s).res = s.res := rfl
@[simp] theorem dropOldest_reslog  (s : State) : (dropOldest s).reslog = s.reslog := rfl
@[simp] theorem dropOldest_inputs  (s : State) : (dropOldest s).inputs = s.inputs := rfl
@[simp] theorem dropOldest_drawIndex  (s : State) : (dropOldest s).drawIndex = s.drawIndex := rfl

/-! ### CLEAR_BUFFER (R83) -/

@[simp] theorem emptyBuffer_cfg  (s : State) : (emptyBuffer s).cfg = s.cfg := rfl
@[simp] theorem emptyBuffer_insts  (s : State) : (emptyBuffer s).insts = s.insts := rfl
@[simp] theorem emptyBuffer_reg  (s : State) : (emptyBuffer s).reg = s.reg := rfl
@[simp] theorem emptyBuffer_slots  (s : State) : (emptyBuffer s).slots = s.slots := rfl
@[simp] theorem emptyBuffer_head  (s : State) : (emptyBuffer s).head = 0 := rfl
@[simp] theorem emptyBuffer_tail  (s : State) : (emptyBuffer s).tail = 0 := rfl
@[simp] theorem emptyBuffer_count  (s : State) : (emptyBuffer s).count = 0 := rfl
@[simp] theorem emptyBuffer_ovf  (s : State) : (emptyBuffer s).ovf = false := rfl
@[simp] theorem emptyBuffer_rxBusy  (s : State) : (emptyBuffer s).rxBusy = s.rxBusy := rfl
@[simp] theorem emptyBuffer_rxN  (s : State) : (emptyBuffer s).rxN = s.rxN := rfl
@[simp] theorem emptyBuffer_rxPat  (s : State) : (emptyBuffer s).rxPat = s.rxPat := rfl
@[simp] theorem emptyBuffer_rxT0  (s : State) : (emptyBuffer s).rxT0 = s.rxT0 := rfl
@[simp] theorem emptyBuffer_txBusy  (s : State) : (emptyBuffer s).txBusy = s.txBusy := rfl
@[simp] theorem emptyBuffer_txInst  (s : State) : (emptyBuffer s).txInst = s.txInst := rfl
@[simp] theorem emptyBuffer_txSegs  (s : State) : (emptyBuffer s).txSegs = s.txSegs := rfl
@[simp] theorem emptyBuffer_txLeft  (s : State) : (emptyBuffer s).txLeft = s.txLeft := rfl
@[simp] theorem emptyBuffer_txLen  (s : State) : (emptyBuffer s).txLen = s.txLen := rfl
@[simp] theorem emptyBuffer_prev  (s : State) : (emptyBuffer s).prev = s.prev := rfl
@[simp] theorem emptyBuffer_now  (s : State) : (emptyBuffer s).now = s.now := rfl
@[simp] theorem emptyBuffer_fault  (s : State) : (emptyBuffer s).fault = s.fault := rfl
@[simp] theorem emptyBuffer_faultCw  (s : State) : (emptyBuffer s).faultCw = s.faultCw := rfl
@[simp] theorem emptyBuffer_faultCp  (s : State) : (emptyBuffer s).faultCp = s.faultCp := rfl
@[simp] theorem emptyBuffer_stream  (s : State) : (emptyBuffer s).stream = s.stream := rfl
@[simp] theorem emptyBuffer_cp  (s : State) : (emptyBuffer s).cp = s.cp := rfl
@[simp] theorem emptyBuffer_res  (s : State) : (emptyBuffer s).res = s.res := rfl
@[simp] theorem emptyBuffer_reslog  (s : State) : (emptyBuffer s).reslog = s.reslog := rfl
@[simp] theorem emptyBuffer_inputs  (s : State) : (emptyBuffer s).inputs = s.inputs := rfl
@[simp] theorem emptyBuffer_drawIndex  (s : State) : (emptyBuffer s).drawIndex = s.drawIndex := rfl

/-! ### the end of a frame (R98) -/

@[simp] theorem endOfFrame_cfg (i : InstId) (len : Nat) (s : State) : (endOfFrame i len s).cfg = s.cfg := rfl
@[simp] theorem endOfFrame_insts (i : InstId) (len : Nat) (s : State) : (endOfFrame i len s).insts = s.insts.set i { s.insts[i] with st := .listening } := rfl
@[simp] theorem endOfFrame_reg (i : InstId) (len : Nat) (s : State) : (endOfFrame i len s).reg = s.reg := rfl
@[simp] theorem endOfFrame_slots (i : InstId) (len : Nat) (s : State) : (endOfFrame i len s).slots = s.slots := rfl
@[simp] theorem endOfFrame_head (i : InstId) (len : Nat) (s : State) : (endOfFrame i len s).head = s.head := rfl
@[simp] theorem endOfFrame_tail (i : InstId) (len : Nat) (s : State) : (endOfFrame i len s).tail = s.tail := rfl
@[simp] theorem endOfFrame_count (i : InstId) (len : Nat) (s : State) : (endOfFrame i len s).count = s.count := rfl
@[simp] theorem endOfFrame_ovf (i : InstId) (len : Nat) (s : State) : (endOfFrame i len s).ovf = s.ovf := rfl
@[simp] theorem endOfFrame_rxBusy (i : InstId) (len : Nat) (s : State) : (endOfFrame i len s).rxBusy = s.rxBusy := rfl
@[simp] theorem endOfFrame_rxN (i : InstId) (len : Nat) (s : State) : (endOfFrame i len s).rxN = s.rxN := rfl
@[simp] theorem endOfFrame_rxPat (i : InstId) (len : Nat) (s : State) : (endOfFrame i len s).rxPat = s.rxPat := rfl
@[simp] theorem endOfFrame_rxT0 (i : InstId) (len : Nat) (s : State) : (endOfFrame i len s).rxT0 = s.rxT0 := rfl
@[simp] theorem endOfFrame_txBusy (i : InstId) (len : Nat) (s : State) : (endOfFrame i len s).txBusy = false := rfl
@[simp] theorem endOfFrame_txInst (i : InstId) (len : Nat) (s : State) : (endOfFrame i len s).txInst = s.txInst := rfl
@[simp] theorem endOfFrame_txSegs (i : InstId) (len : Nat) (s : State) : (endOfFrame i len s).txSegs = [] := rfl
@[simp] theorem endOfFrame_txLeft (i : InstId) (len : Nat) (s : State) : (endOfFrame i len s).txLeft = 0 := rfl
@[simp] theorem endOfFrame_txLen (i : InstId) (len : Nat) (s : State) : (endOfFrame i len s).txLen = 0 := rfl
@[simp] theorem endOfFrame_prev (i : InstId) (len : Nat) (s : State) : (endOfFrame i len s).prev = s.prev := rfl
@[simp] theorem endOfFrame_now (i : InstId) (len : Nat) (s : State) : (endOfFrame i len s).now = s.now := rfl
@[simp] theorem endOfFrame_fault (i : InstId) (len : Nat) (s : State) : (endOfFrame i len s).fault = s.fault := rfl
@[simp] theorem endOfFrame_faultCw (i : InstId) (len : Nat) (s : State) : (endOfFrame i len s).faultCw = s.faultCw := rfl
@[simp] theorem endOfFrame_faultCp (i : InstId) (len : Nat) (s : State) : (endOfFrame i len s).faultCp = s.faultCp := rfl
@[simp] theorem endOfFrame_stream (i : InstId) (len : Nat) (s : State) : (endOfFrame i len s).stream = s.stream := rfl
@[simp] theorem endOfFrame_cp (i : InstId) (len : Nat) (s : State) : (endOfFrame i len s).cp = s.cp + BitVec.ofNat 32 len := rfl
@[simp] theorem endOfFrame_res (i : InstId) (len : Nat) (s : State) : (endOfFrame i len s).res = 0 := rfl
@[simp] theorem endOfFrame_reslog (i : InstId) (len : Nat) (s : State) : (endOfFrame i len s).reslog = s.reslog ++ [0] := rfl
@[simp] theorem endOfFrame_inputs (i : InstId) (len : Nat) (s : State) : (endOfFrame i len s).inputs = s.inputs := rfl
@[simp] theorem endOfFrame_drawIndex (i : InstId) (len : Nat) (s : State) : (endOfFrame i len s).drawIndex = s.drawIndex := rfl

/-! ### the start of a frame (R93) -/

@[simp] theorem beginFrame_cfg (i : InstId) (g : Seg) (gs : List Seg) (len : Nat) (s : State) : (beginFrame i g gs len s).cfg = s.cfg := rfl
@[simp] theorem beginFrame_insts (i : InstId) (g : Seg) (gs : List Seg) (len : Nat) (s : State) : (beginFrame i g gs len s).insts = s.insts.set i { s.insts[i] with st := .transmitting } := rfl
@[simp] theorem beginFrame_reg (i : InstId) (g : Seg) (gs : List Seg) (len : Nat) (s : State) : (beginFrame i g gs len s).reg = s.reg := rfl
@[simp] theorem beginFrame_slots (i : InstId) (g : Seg) (gs : List Seg) (len : Nat) (s : State) : (beginFrame i g gs len s).slots = s.slots := rfl
@[simp] theorem beginFrame_head (i : InstId) (g : Seg) (gs : List Seg) (len : Nat) (s : State) : (beginFrame i g gs len s).head = s.head := rfl
@[simp] theorem beginFrame_tail (i : InstId) (g : Seg) (gs : List Seg) (len : Nat) (s : State) : (beginFrame i g gs len s).tail = s.tail := rfl
@[simp] theorem beginFrame_count (i : InstId) (g : Seg) (gs : List Seg) (len : Nat) (s : State) : (beginFrame i g gs len s).count = s.count := rfl
@[simp] theorem beginFrame_ovf (i : InstId) (g : Seg) (gs : List Seg) (len : Nat) (s : State) : (beginFrame i g gs len s).ovf = s.ovf := rfl
@[simp] theorem beginFrame_rxBusy (i : InstId) (g : Seg) (gs : List Seg) (len : Nat) (s : State) : (beginFrame i g gs len s).rxBusy = s.rxBusy := rfl
@[simp] theorem beginFrame_rxN (i : InstId) (g : Seg) (gs : List Seg) (len : Nat) (s : State) : (beginFrame i g gs len s).rxN = s.rxN := rfl
@[simp] theorem beginFrame_rxPat (i : InstId) (g : Seg) (gs : List Seg) (len : Nat) (s : State) : (beginFrame i g gs len s).rxPat = s.rxPat := rfl
@[simp] theorem beginFrame_rxT0 (i : InstId) (g : Seg) (gs : List Seg) (len : Nat) (s : State) : (beginFrame i g gs len s).rxT0 = s.rxT0 := rfl
@[simp] theorem beginFrame_txBusy (i : InstId) (g : Seg) (gs : List Seg) (len : Nat) (s : State) : (beginFrame i g gs len s).txBusy = true := rfl
@[simp] theorem beginFrame_txInst (i : InstId) (g : Seg) (gs : List Seg) (len : Nat) (s : State) : (beginFrame i g gs len s).txInst = i := rfl
@[simp] theorem beginFrame_txSegs (i : InstId) (g : Seg) (gs : List Seg) (len : Nat) (s : State) : (beginFrame i g gs len s).txSegs = g :: gs := rfl
@[simp] theorem beginFrame_txLeft (i : InstId) (g : Seg) (gs : List Seg) (len : Nat) (s : State) : (beginFrame i g gs len s).txLeft = segTicks g := rfl
@[simp] theorem beginFrame_txLen (i : InstId) (g : Seg) (gs : List Seg) (len : Nat) (s : State) : (beginFrame i g gs len s).txLen = len := rfl
@[simp] theorem beginFrame_prev (i : InstId) (g : Seg) (gs : List Seg) (len : Nat) (s : State) : (beginFrame i g gs len s).prev = s.prev := rfl
@[simp] theorem beginFrame_now (i : InstId) (g : Seg) (gs : List Seg) (len : Nat) (s : State) : (beginFrame i g gs len s).now = s.now := rfl
@[simp] theorem beginFrame_fault (i : InstId) (g : Seg) (gs : List Seg) (len : Nat) (s : State) : (beginFrame i g gs len s).fault = s.fault := rfl
@[simp] theorem beginFrame_faultCw (i : InstId) (g : Seg) (gs : List Seg) (len : Nat) (s : State) : (beginFrame i g gs len s).faultCw = s.faultCw := rfl
@[simp] theorem beginFrame_faultCp (i : InstId) (g : Seg) (gs : List Seg) (len : Nat) (s : State) : (beginFrame i g gs len s).faultCp = s.faultCp := rfl
@[simp] theorem beginFrame_stream (i : InstId) (g : Seg) (gs : List Seg) (len : Nat) (s : State) : (beginFrame i g gs len s).stream = s.stream := rfl
@[simp] theorem beginFrame_cp (i : InstId) (g : Seg) (gs : List Seg) (len : Nat) (s : State) : (beginFrame i g gs len s).cp = s.cp := rfl
@[simp] theorem beginFrame_res (i : InstId) (g : Seg) (gs : List Seg) (len : Nat) (s : State) : (beginFrame i g gs len s).res = s.res := rfl
@[simp] theorem beginFrame_reslog (i : InstId) (g : Seg) (gs : List Seg) (len : Nat) (s : State) : (beginFrame i g gs len s).reslog = s.reslog := rfl
@[simp] theorem beginFrame_inputs (i : InstId) (g : Seg) (gs : List Seg) (len : Nat) (s : State) : (beginFrame i g gs len s).inputs = s.inputs := rfl
@[simp] theorem beginFrame_drawIndex (i : InstId) (g : Seg) (gs : List Seg) (len : Nat) (s : State) : (beginFrame i g gs len s).drawIndex = s.drawIndex := rfl

/-! ### phase P5 (R68) -/

@[simp] theorem rememberPhase_cfg (lvl : PinId → Level) (s : State) : (rememberPhase lvl s).cfg = s.cfg := rfl
@[simp] theorem rememberPhase_insts (lvl : PinId → Level) (s : State) : (rememberPhase lvl s).insts = s.insts := rfl
@[simp] theorem rememberPhase_reg (lvl : PinId → Level) (s : State) : (rememberPhase lvl s).reg = s.reg := rfl
@[simp] theorem rememberPhase_slots (lvl : PinId → Level) (s : State) : (rememberPhase lvl s).slots = s.slots := rfl
@[simp] theorem rememberPhase_head (lvl : PinId → Level) (s : State) : (rememberPhase lvl s).head = s.head := rfl
@[simp] theorem rememberPhase_tail (lvl : PinId → Level) (s : State) : (rememberPhase lvl s).tail = s.tail := rfl
@[simp] theorem rememberPhase_count (lvl : PinId → Level) (s : State) : (rememberPhase lvl s).count = s.count := rfl
@[simp] theorem rememberPhase_ovf (lvl : PinId → Level) (s : State) : (rememberPhase lvl s).ovf = s.ovf := rfl
@[simp] theorem rememberPhase_rxBusy (lvl : PinId → Level) (s : State) : (rememberPhase lvl s).rxBusy = s.rxBusy := rfl
@[simp] theorem rememberPhase_rxN (lvl : PinId → Level) (s : State) : (rememberPhase lvl s).rxN = s.rxN := rfl
@[simp] theorem rememberPhase_rxPat (lvl : PinId → Level) (s : State) : (rememberPhase lvl s).rxPat = s.rxPat := rfl
@[simp] theorem rememberPhase_rxT0 (lvl : PinId → Level) (s : State) : (rememberPhase lvl s).rxT0 = s.rxT0 := rfl
@[simp] theorem rememberPhase_txBusy (lvl : PinId → Level) (s : State) : (rememberPhase lvl s).txBusy = s.txBusy := rfl
@[simp] theorem rememberPhase_txInst (lvl : PinId → Level) (s : State) : (rememberPhase lvl s).txInst = s.txInst := rfl
@[simp] theorem rememberPhase_txSegs (lvl : PinId → Level) (s : State) : (rememberPhase lvl s).txSegs = s.txSegs := rfl
@[simp] theorem rememberPhase_txLeft (lvl : PinId → Level) (s : State) : (rememberPhase lvl s).txLeft = s.txLeft := rfl
@[simp] theorem rememberPhase_txLen (lvl : PinId → Level) (s : State) : (rememberPhase lvl s).txLen = s.txLen := rfl
@[simp] theorem rememberPhase_prev (lvl : PinId → Level) (s : State) : (rememberPhase lvl s).prev = (List.range s.cfg.nPins).map (fun k => lvl (BitVec.ofNat 8 k)) := rfl
@[simp] theorem rememberPhase_now (lvl : PinId → Level) (s : State) : (rememberPhase lvl s).now = s.now := rfl
@[simp] theorem rememberPhase_fault (lvl : PinId → Level) (s : State) : (rememberPhase lvl s).fault = s.fault := rfl
@[simp] theorem rememberPhase_faultCw (lvl : PinId → Level) (s : State) : (rememberPhase lvl s).faultCw = s.faultCw := rfl
@[simp] theorem rememberPhase_faultCp (lvl : PinId → Level) (s : State) : (rememberPhase lvl s).faultCp = s.faultCp := rfl
@[simp] theorem rememberPhase_stream (lvl : PinId → Level) (s : State) : (rememberPhase lvl s).stream = s.stream := rfl
@[simp] theorem rememberPhase_cp (lvl : PinId → Level) (s : State) : (rememberPhase lvl s).cp = s.cp := rfl
@[simp] theorem rememberPhase_res (lvl : PinId → Level) (s : State) : (rememberPhase lvl s).res = s.res := rfl
@[simp] theorem rememberPhase_reslog (lvl : PinId → Level) (s : State) : (rememberPhase lvl s).reslog = s.reslog := rfl
@[simp] theorem rememberPhase_inputs (lvl : PinId → Level) (s : State) : (rememberPhase lvl s).inputs = s.inputs := rfl
@[simp] theorem rememberPhase_drawIndex (lvl : PinId → Level) (s : State) : (rememberPhase lvl s).drawIndex = s.drawIndex := rfl

/-! ### phase P7 (R122) -/

@[simp] theorem timePhase_cfg  (s : State) : (timePhase s).cfg = s.cfg := rfl
@[simp] theorem timePhase_insts  (s : State) : (timePhase s).insts = s.insts := rfl
@[simp] theorem timePhase_reg  (s : State) : (timePhase s).reg = s.reg := rfl
@[simp] theorem timePhase_slots  (s : State) : (timePhase s).slots = s.slots := rfl
@[simp] theorem timePhase_head  (s : State) : (timePhase s).head = s.head := rfl
@[simp] theorem timePhase_tail  (s : State) : (timePhase s).tail = s.tail := rfl
@[simp] theorem timePhase_count  (s : State) : (timePhase s).count = s.count := rfl
@[simp] theorem timePhase_ovf  (s : State) : (timePhase s).ovf = s.ovf := rfl
@[simp] theorem timePhase_rxBusy  (s : State) : (timePhase s).rxBusy = s.rxBusy := rfl
@[simp] theorem timePhase_rxN  (s : State) : (timePhase s).rxN = s.rxN := rfl
@[simp] theorem timePhase_rxPat  (s : State) : (timePhase s).rxPat = s.rxPat := rfl
@[simp] theorem timePhase_rxT0  (s : State) : (timePhase s).rxT0 = s.rxT0 := rfl
@[simp] theorem timePhase_txBusy  (s : State) : (timePhase s).txBusy = s.txBusy := rfl
@[simp] theorem timePhase_txInst  (s : State) : (timePhase s).txInst = s.txInst := rfl
@[simp] theorem timePhase_txSegs  (s : State) : (timePhase s).txSegs = s.txSegs := rfl
@[simp] theorem timePhase_txLeft  (s : State) : (timePhase s).txLeft = s.txLeft := rfl
@[simp] theorem timePhase_txLen  (s : State) : (timePhase s).txLen = s.txLen := rfl
@[simp] theorem timePhase_prev  (s : State) : (timePhase s).prev = s.prev := rfl
@[simp] theorem timePhase_now  (s : State) : (timePhase s).now = s.now + 1 := rfl
@[simp] theorem timePhase_fault  (s : State) : (timePhase s).fault = s.fault := rfl
@[simp] theorem timePhase_faultCw  (s : State) : (timePhase s).faultCw = s.faultCw := rfl
@[simp] theorem timePhase_faultCp  (s : State) : (timePhase s).faultCp = s.faultCp := rfl
@[simp] theorem timePhase_stream  (s : State) : (timePhase s).stream = s.stream := rfl
@[simp] theorem timePhase_cp  (s : State) : (timePhase s).cp = s.cp := rfl
@[simp] theorem timePhase_res  (s : State) : (timePhase s).res = s.res := rfl
@[simp] theorem timePhase_reslog  (s : State) : (timePhase s).reslog = s.reslog := rfl
@[simp] theorem timePhase_inputs  (s : State) : (timePhase s).inputs = s.inputs := rfl
@[simp] theorem timePhase_drawIndex  (s : State) : (timePhase s).drawIndex = s.drawIndex := rfl

/-! ### The registers of an instance after a write -/

@[simp] theorem st_setSt (s : State) (i j : InstId) (v : LineState) :
    (s.setSt i v).st j = if j = i then v else s.st j := by
  by_cases h : j = i
  · subst h; simp [State.st]
  · have h' : i.val ≠ j.val := fun e => h (Fin.ext e.symm)
    simp [State.st, h, h']

@[simp] theorem pin_setSt (s : State) (i j : InstId) (v : LineState) : (s.setSt i v).pin j = s.pin j := by
  by_cases h : i.val = j.val <;> simp [State.pin, h]

@[simp] theorem tmo_setSt (s : State) (i j : InstId) (v : LineState) : (s.setSt i v).tmo j = s.tmo j := by
  by_cases h : i.val = j.val <;> simp [State.tmo, h]

@[simp] theorem st_setPin (s : State) (i j : InstId) (v : PinId) : (s.setPin i v).st j = s.st j := by
  by_cases h : i.val = j.val <;> simp [State.st, h]

@[simp] theorem pin_setPin (s : State) (i j : InstId) (v : PinId) :
    (s.setPin i v).pin j = if j = i then v else s.pin j := by
  by_cases h : j = i
  · subst h; simp [State.pin]
  · have h' : i.val ≠ j.val := fun e => h (Fin.ext e.symm)
    simp [State.pin, h, h']

@[simp] theorem tmo_setPin (s : State) (i j : InstId) (v : PinId) : (s.setPin i v).tmo j = s.tmo j := by
  by_cases h : i.val = j.val <;> simp [State.tmo, h]

@[simp] theorem st_setTmo (s : State) (i j : InstId) (v : Word) : (s.setTmo i v).st j = s.st j := by
  by_cases h : i.val = j.val <;> simp [State.st, h]

@[simp] theorem pin_setTmo (s : State) (i j : InstId) (v : Word) : (s.setTmo i v).pin j = s.pin j := by
  by_cases h : i.val = j.val <;> simp [State.pin, h]

@[simp] theorem tmo_setTmo (s : State) (i j : InstId) (v : Word) :
    (s.setTmo i v).tmo j = if j = i then v else s.tmo j := by
  by_cases h : j = i
  · subst h; simp [State.tmo]
  · have h' : i.val ≠ j.val := fun e => h (Fin.ext e.symm)
    simp [State.tmo, h, h']

/-! ### Updates that leave the instance registers alone -/

@[simp] theorem st_memWrite (k : Fin 75) (v : Byte) (s : State) (j : InstId) : (memWrite s k v).st j = s.st j := rfl
@[simp] theorem pin_memWrite (k : Fin 75) (v : Byte) (s : State) (j : InstId) : (memWrite s k v).pin j = s.pin j := rfl
@[simp] theorem tmo_memWrite (k : Fin 75) (v : Byte) (s : State) (j : InstId) : (memWrite s k v).tmo j = s.tmo j := rfl
@[simp] theorem st_raiseFault (c : Cause) (cw : Half) (s : State) (j : InstId) : (raiseFault c cw s).st j = s.st j := rfl
@[simp] theorem pin_raiseFault (c : Cause) (cw : Half) (s : State) (j : InstId) : (raiseFault c cw s).pin j = s.pin j := rfl
@[simp] theorem tmo_raiseFault (c : Cause) (cw : Half) (s : State) (j : InstId) : (raiseFault c cw s).tmo j = s.tmo j := rfl
@[simp] theorem st_retire (len : Nat) (w : Word) (s : State) (j : InstId) : (retire len w s).st j = s.st j := rfl
@[simp] theorem pin_retire (len : Nat) (w : Word) (s : State) (j : InstId) : (retire len w s).pin j = s.pin j := rfl
@[simp] theorem tmo_retire (len : Nat) (w : Word) (s : State) (j : InstId) : (retire len w s).tmo j = s.tmo j := rfl
@[simp] theorem st_clearAssembly  (s : State) (j : InstId) : (clearAssembly s).st j = s.st j := rfl
@[simp] theorem pin_clearAssembly  (s : State) (j : InstId) : (clearAssembly s).pin j = s.pin j := rfl
@[simp] theorem tmo_clearAssembly  (s : State) (j : InstId) : (clearAssembly s).tmo j = s.tmo j := rfl
@[simp] theorem st_dropOldest  (s : State) (j : InstId) : (dropOldest s).st j = s.st j := rfl
@[simp] theorem pin_dropOldest  (s : State) (j : InstId) : (dropOldest s).pin j = s.pin j := rfl
@[simp] theorem tmo_dropOldest  (s : State) (j : InstId) : (dropOldest s).tmo j = s.tmo j := rfl
@[simp] theorem st_emptyBuffer  (s : State) (j : InstId) : (emptyBuffer s).st j = s.st j := rfl
@[simp] theorem pin_emptyBuffer  (s : State) (j : InstId) : (emptyBuffer s).pin j = s.pin j := rfl
@[simp] theorem tmo_emptyBuffer  (s : State) (j : InstId) : (emptyBuffer s).tmo j = s.tmo j := rfl
@[simp] theorem st_rememberPhase (lvl : PinId → Level) (s : State) (j : InstId) : (rememberPhase lvl s).st j = s.st j := rfl
@[simp] theorem pin_rememberPhase (lvl : PinId → Level) (s : State) (j : InstId) : (rememberPhase lvl s).pin j = s.pin j := rfl
@[simp] theorem tmo_rememberPhase (lvl : PinId → Level) (s : State) (j : InstId) : (rememberPhase lvl s).tmo j = s.tmo j := rfl
@[simp] theorem st_timePhase  (s : State) (j : InstId) : (timePhase s).st j = s.st j := rfl
@[simp] theorem pin_timePhase  (s : State) (j : InstId) : (timePhase s).pin j = s.pin j := rfl
@[simp] theorem tmo_timePhase  (s : State) (j : InstId) : (timePhase s).tmo j = s.tmo j := rfl

@[simp] theorem st_endOfFrame (i : InstId) (len : Nat) (s : State) (j : InstId) :
    (endOfFrame i len s).st j = if j = i then .listening else s.st j := st_setSt s i j .listening
@[simp] theorem pin_endOfFrame (i : InstId) (len : Nat) (s : State) (j : InstId) :
    (endOfFrame i len s).pin j = s.pin j := pin_setSt s i j .listening
@[simp] theorem tmo_endOfFrame (i : InstId) (len : Nat) (s : State) (j : InstId) :
    (endOfFrame i len s).tmo j = s.tmo j := tmo_setSt s i j .listening
@[simp] theorem st_beginFrame (i : InstId) (g : Seg) (gs : List Seg) (len : Nat) (s : State) (j : InstId) :
    (beginFrame i g gs len s).st j = if j = i then .transmitting else s.st j := st_setSt s i j .transmitting
@[simp] theorem pin_beginFrame (i : InstId) (g : Seg) (gs : List Seg) (len : Nat) (s : State) (j : InstId) :
    (beginFrame i g gs len s).pin j = s.pin j := pin_setSt s i j .transmitting
@[simp] theorem tmo_beginFrame (i : InstId) (g : Seg) (gs : List Seg) (len : Nat) (s : State) (j : InstId) :
    (beginFrame i g gs len s).tmo j = s.tmo j := tmo_setSt s i j .transmitting

/-- Two states with the same instance registers agree on `st`, `pin` and `tmo`. -/
theorem regs_congr (s t : State) (h : t.insts = s.insts) (i : InstId) :
    t.st i = s.st i ∧ t.pin i = s.pin i ∧ t.tmo i = s.tmo i := by
  simp [State.st, State.pin, State.tmo, h]

end Sys2Proof.Machine
end

