-- ==== Sys2Proof/Laws/Memory.lean ====
section
/-! SUPPORT. The slots of the receive buffer (20_memory.md R32): a read after a write, and the canonical form. -/

namespace Sys2Proof.Machine

/-- A read of the slot just written gives the value written. -/
theorem read?_write_same (m : Memory) (k : Nat) (v : Byte) : Memory.read? (Memory.write m k v) k = some v := by
  induction m with
  | nil => simp [Memory.write, Memory.read?]
  | cons c m ih =>
    obtain ⟨a, b⟩ := c
    simp only [Memory.write]
    split
    · simp [Memory.read?]
    · split
      · simp [Memory.read?]
      · simp [Memory.read?, *]

/-- A write leaves every other slot alone. -/
theorem read?_write_other (m : Memory) (k j : Nat) (v : Byte) (h : j ≠ k) :
    Memory.read? (Memory.write m k v) j = Memory.read? m j := by
  induction m with
  | nil => simp [Memory.write, Memory.read?, h]
  | cons c m ih =>
    obtain ⟨a, b⟩ := c
    simp only [Memory.write]
    split
    · simp [Memory.read?, h]
    · split
      · rename_i h'; subst h'; simp [Memory.read?, h]
      · simp only [Memory.read?, ih]

/-- A write below CAP keeps the canonical form. -/
theorem wfFrom_write (m : Memory) (lo k : Nat) (v : Byte) (hlo : lo ≤ k) (hk : k < cap)
    (h : Memory.wfFrom lo m = true) : Memory.wfFrom lo (Memory.write m k v) = true := by
  induction m generalizing lo with
  | nil => simp [Memory.write, Memory.wfFrom, hlo, hk]
  | cons c m ih =>
    obtain ⟨a, b⟩ := c
    simp only [Memory.wfFrom, Bool.and_eq_true, decide_eq_true_eq] at h
    simp only [Memory.write]
    split
    · simp only [Memory.wfFrom, Bool.and_eq_true, decide_eq_true_eq]
      exact ⟨⟨hlo, hk⟩, ⟨by omega, h.1.2⟩, h.2⟩
    · split
      · rename_i h'; subst h'
        simp only [Memory.wfFrom, Bool.and_eq_true, decide_eq_true_eq]
        exact ⟨⟨hlo, hk⟩, h.2⟩
      · simp only [Memory.wfFrom, Bool.and_eq_true, decide_eq_true_eq]
        exact ⟨h.1, ih (a + 1) (by omega) h.2⟩

/-- `MemWrite` keeps the canonical form. -/
theorem memWrite_wf (s : State) (k : Fin 75) (v : Byte) (h : Memory.wf s.slots = true) :
    Memory.wf (memWrite s k v).slots = true :=
  wfFrom_write s.slots 0 k.val v (Nat.zero_le _) k.isLt h

/-- `MemRead` after `MemWrite` of the same slot. -/
theorem memRead_memWrite_same (s : State) (k : Fin 75) (v : Byte) : memRead (memWrite s k v) k = v := by
  simp [memRead, read?_write_same]

/-- `MemRead` after `MemWrite` of another slot. -/
theorem memRead_memWrite_other (s : State) (k j : Fin 75) (v : Byte) (h : j ≠ k) :
    memRead (memWrite s k v) j = memRead s j := by
  have h' : j.val ≠ k.val := fun e => h (Fin.ext e)
  simp [memRead, read?_write_other _ _ _ _ h']

/-- The canonical form has each slot once: what is listed in rising order is what is read. -/
theorem read?_none_below (m : Memory) (lo k : Nat) (hk : k < lo) (h : Memory.wfFrom lo m = true) :
    Memory.read? m k = none := by
  induction m generalizing lo with
  | nil => rfl
  | cons c m ih =>
    obtain ⟨a, b⟩ := c
    simp only [Memory.wfFrom, Bool.and_eq_true, decide_eq_true_eq] at h
    have hne : ¬ k = a := by omega
    simp only [Memory.read?, hne, if_false]
    exact ih (a + 1) (by omega) h.2

/-- Two memories in canonical form that read alike are equal data. -/
theorem wf_ext (m n : Memory) (lo : Nat) (hm : Memory.wfFrom lo m = true) (hn : Memory.wfFrom lo n = true)
    (h : ∀ k, Memory.read? m k = Memory.read? n k) : m = n := by
  induction m generalizing lo n with
  | nil =>
    cases n with
    | nil => rfl
    | cons c n => obtain ⟨a, b⟩ := c; simpa [Memory.read?] using h a
  | cons c m ih =>
    obtain ⟨a, b⟩ := c
    cases n with
    | nil => simpa [Memory.read?] using h a
    | cons c' n =>
      obtain ⟨a', b'⟩ := c'
      simp only [Memory.wfFrom, Bool.and_eq_true, decide_eq_true_eq] at hm hn
      have haa : a = a' := by
        by_contra hne
        rcases Nat.lt_or_gt_of_ne hne with hlt | hgt
        · have h1 := h a
          rw [show Memory.read? ((a', b') :: n) a = none from by
            simp only [Memory.read?, hne, if_false]
            exact read?_none_below n (a' + 1) a (by omega) hn.2] at h1
          simp [Memory.read?] at h1
        · have h1 := h a'
          rw [show Memory.read? ((a, b) :: m) a' = none from by
            simp only [Memory.read?, show ¬ a' = a from fun e => hne e.symm, if_false]
            exact read?_none_below m (a + 1) a' (by omega) hm.2] at h1
          simp [Memory.read?] at h1
      subst haa
      have hb : b = b' := by simpa [Memory.read?] using h a
      subst hb
      have : m = n := by
        refine ih n (a + 1) hm.2 hn.2 (fun k => ?_)
        by_cases hk : k = a
        · rw [read?_none_below m (a + 1) k (by omega) hm.2, read?_none_below n (a + 1) k (by omega) hn.2]
        · simpa [Memory.read?, hk] using h k
      rw [this]

end Sys2Proof.Machine
end

