-- ==== Sys2Proof/Laws/Phases.lean ====
section
/-! SUPPORT. What each shared operation and each tick phase leaves unchanged, field by field, and what the rest of
it does, so that no later proof unfolds one. -/

namespace Sys2Proof.Machine

/-! ### DropAssembly (R58) -/

@[simp] theorem dropAssembly_cfg (i : InstId) (s : State) : (dropAssembly i s).cfg = s.cfg := by
  unfold dropAssembly; split <;> rfl
@[simp] theorem dropAssembly_insts (i : InstId) (s : State) : (dropAssembly i s).insts = s.insts := by
  unfold dropAssembly; split <;> rfl
@[simp] theorem dropAssembly_reg (i : InstId) (s : State) : (dropAssembly i s).reg = s.reg := by
  unfold dropAssembly; split <;> rfl
@[simp] theorem dropAssembly_slots (i : InstId) (s : State) : (dropAssembly i s).slots = s.slots := by
  unfold dropAssembly; split <;> rfl
@[simp] theorem dropAssembly_head (i : InstId) (s : State) : (dropAssembly i s).head = s.head := by
  unfold dropAssembly; split <;> rfl
@[simp] theorem dropAssembly_tail (i : InstId) (s : State) : (dropAssembly i s).tail = s.tail := by
  unfold dropAssembly; split <;> rfl
@[simp] theorem dropAssembly_count (i : InstId) (s : State) : (dropAssembly i s).count = s.count := by
  unfold dropAssembly; split <;> rfl
@[simp] theorem dropAssembly_ovf (i : InstId) (s : State) : (dropAssembly i s).ovf = s.ovf := by
  unfold dropAssembly; split <;> rfl
@[simp] theorem dropAssembly_rxT0 (i : InstId) (s : State) : (dropAssembly i s).rxT0 = s.rxT0 := by
  unfold dropAssembly; split <;> rfl
@[simp] theorem dropAssembly_txBusy (i : InstId) (s : State) : (dropAssembly i s).txBusy = s.txBusy := by
  unfold dropAssembly; split <;> rfl
@[simp] theorem dropAssembly_txInst (i : InstId) (s : State) : (dropAssembly i s).txInst = s.txInst := by
  unfold dropAssembly; split <;> rfl
@[simp] theorem dropAssembly_txSegs (i : InstId) (s : State) : (dropAssembly i s).txSegs = s.txSegs := by
  unfold dropAssembly; split <;> rfl
@[simp] theorem dropAssembly_txLeft (i : InstId) (s : State) : (dropAssembly i s).txLeft = s.txLeft := by
  unfold dropAssembly; split <;> rfl
@[simp] theorem dropAssembly_txLen (i : InstId) (s : State) : (dropAssembly i s).txLen = s.txLen := by
  unfold dropAssembly; split <;> rfl
@[simp] theorem dropAssembly_prev (i : InstId) (s : State) : (dropAssembly i s).prev = s.prev := by
  unfold dropAssembly; split <;> rfl
@[simp] theorem dropAssembly_now (i : InstId) (s : State) : (dropAssembly i s).now = s.now := by
  unfold dropAssembly; split <;> rfl
@[simp] theorem dropAssembly_fault (i : InstId) (s : State) : (dropAssembly i s).fault = s.fault := by
  unfold dropAssembly; split <;> rfl
@[simp] theorem dropAssembly_faultCw (i : InstId) (s : State) : (dropAssembly i s).faultCw = s.faultCw := by
  unfold dropAssembly; split <;> rfl
@[simp] theorem dropAssembly_faultCp (i : InstId) (s : State) : (dropAssembly i s).faultCp = s.faultCp := by
  unfold dropAssembly; split <;> rfl
@[simp] theorem dropAssembly_stream (i : InstId) (s : State) : (dropAssembly i s).stream = s.stream := by
  unfold dropAssembly; split <;> rfl
@[simp] theorem dropAssembly_cp (i : InstId) (s : State) : (dropAssembly i s).cp = s.cp := by
  unfold dropAssembly; split <;> rfl
@[simp] theorem dropAssembly_res (i : InstId) (s : State) : (dropAssembly i s).res = s.res := by
  unfold dropAssembly; split <;> rfl
@[simp] theorem dropAssembly_reslog (i : InstId) (s : State) : (dropAssembly i s).reslog = s.reslog := by
  unfold dropAssembly; split <;> rfl
@[simp] theorem dropAssembly_inputs (i : InstId) (s : State) : (dropAssembly i s).inputs = s.inputs := by
  unfold dropAssembly; split <;> rfl
@[simp] theorem dropAssembly_drawIndex (i : InstId) (s : State) : (dropAssembly i s).drawIndex = s.drawIndex := by
  unfold dropAssembly; split <;> rfl
@[simp] theorem dropAssembly_st (i : InstId) (s : State) (j : InstId) : (dropAssembly i s).st j = s.st j := by
  simp [State.st]
@[simp] theorem dropAssembly_pin (i : InstId) (s : State) (j : InstId) : (dropAssembly i s).pin j = s.pin j := by
  simp [State.pin]
@[simp] theorem dropAssembly_tmo (i : InstId) (s : State) (j : InstId) : (dropAssembly i s).tmo j = s.tmo j := by
  simp [State.tmo]

/-- DropAssembly never starts an assembly, and leaves the registers of one it does not drop. -/
theorem dropAssembly_cases (i : InstId) (s : State) :
    (s.reg = some i ∧ s.rxBusy = true ∧ dropAssembly i s = clearAssembly s) ∨
    (¬(s.reg = some i ∧ s.rxBusy = true) ∧ dropAssembly i s = s) := by
  by_cases h : s.reg = some i ∧ s.rxBusy = true
  · exact .inl ⟨h.1, h.2, if_pos h⟩
  · exact .inr ⟨h, if_neg h⟩

/-! ### Leaving LISTENING (R63, R93) -/

@[simp] theorem leaveListening_cfg (i : InstId) (s : State) : (leaveListening i s).cfg = s.cfg := by
  unfold leaveListening; split <;> simp
@[simp] theorem leaveListening_insts (i : InstId) (s : State) : (leaveListening i s).insts = s.insts := by
  unfold leaveListening; split <;> simp
@[simp] theorem leaveListening_reg (i : InstId) (s : State) : (leaveListening i s).reg = s.reg := by
  unfold leaveListening; split <;> simp
@[simp] theorem leaveListening_slots (i : InstId) (s : State) : (leaveListening i s).slots = s.slots := by
  unfold leaveListening; split <;> simp
@[simp] theorem leaveListening_head (i : InstId) (s : State) : (leaveListening i s).head = s.head := by
  unfold leaveListening; split <;> simp
@[simp] theorem leaveListening_tail (i : InstId) (s : State) : (leaveListening i s).tail = s.tail := by
  unfold leaveListening; split <;> simp
@[simp] theorem leaveListening_count (i : InstId) (s : State) : (leaveListening i s).count = s.count := by
  unfold leaveListening; split <;> simp
@[simp] theorem leaveListening_ovf (i : InstId) (s : State) : (leaveListening i s).ovf = s.ovf := by
  unfold leaveListening; split <;> simp
@[simp] theorem leaveListening_rxT0 (i : InstId) (s : State) : (leaveListening i s).rxT0 = s.rxT0 := by
  unfold leaveListening; split <;> simp
@[simp] theorem leaveListening_txBusy (i : InstId) (s : State) : (leaveListening i s).txBusy = s.txBusy := by
  unfold leaveListening; split <;> simp
@[simp] theorem leaveListening_txInst (i : InstId) (s : State) : (leaveListening i s).txInst = s.txInst := by
  unfold leaveListening; split <;> simp
@[simp] theorem leaveListening_txSegs (i : InstId) (s : State) : (leaveListening i s).txSegs = s.txSegs := by
  unfold leaveListening; split <;> simp
@[simp] theorem leaveListening_txLeft (i : InstId) (s : State) : (leaveListening i s).txLeft = s.txLeft := by
  unfold leaveListening; split <;> simp
@[simp] theorem leaveListening_txLen (i : InstId) (s : State) : (leaveListening i s).txLen = s.txLen := by
  unfold leaveListening; split <;> simp
@[simp] theorem leaveListening_prev (i : InstId) (s : State) : (leaveListening i s).prev = s.prev := by
  unfold leaveListening; split <;> simp
@[simp] theorem leaveListening_now (i : InstId) (s : State) : (leaveListening i s).now = s.now := by
  unfold leaveListening; split <;> simp
@[simp] theorem leaveListening_fault (i : InstId) (s : State) : (leaveListening i s).fault = s.fault := by
  unfold leaveListening; split <;> simp
@[simp] theorem leaveListening_faultCw (i : InstId) (s : State) : (leaveListening i s).faultCw = s.faultCw := by
  unfold leaveListening; split <;> simp
@[simp] theorem leaveListening_faultCp (i : InstId) (s : State) : (leaveListening i s).faultCp = s.faultCp := by
  unfold leaveListening; split <;> simp
@[simp] theorem leaveListening_stream (i : InstId) (s : State) : (leaveListening i s).stream = s.stream := by
  unfold leaveListening; split <;> simp
@[simp] theorem leaveListening_cp (i : InstId) (s : State) : (leaveListening i s).cp = s.cp := by
  unfold leaveListening; split <;> simp
@[simp] theorem leaveListening_res (i : InstId) (s : State) : (leaveListening i s).res = s.res := by
  unfold leaveListening; split <;> simp
@[simp] theorem leaveListening_reslog (i : InstId) (s : State) : (leaveListening i s).reslog = s.reslog := by
  unfold leaveListening; split <;> simp
@[simp] theorem leaveListening_inputs (i : InstId) (s : State) : (leaveListening i s).inputs = s.inputs := by
  unfold leaveListening; split <;> simp
@[simp] theorem leaveListening_drawIndex (i : InstId) (s : State) : (leaveListening i s).drawIndex = s.drawIndex := by
  unfold leaveListening; split <;> simp
@[simp] theorem leaveListening_st (i : InstId) (s : State) (j : InstId) : (leaveListening i s).st j = s.st j := by
  unfold leaveListening; split <;> simp
@[simp] theorem leaveListening_pin (i : InstId) (s : State) (j : InstId) : (leaveListening i s).pin j = s.pin j := by
  unfold leaveListening; split <;> simp
@[simp] theorem leaveListening_tmo (i : InstId) (s : State) (j : InstId) : (leaveListening i s).tmo j = s.tmo j := by
  unfold leaveListening; split <;> simp

/-- The assembly is kept as it was, or dropped because it is that of the instance leaving LISTENING. -/
theorem leaveListening_cases (i : InstId) (s : State) :
    (armed s i = true ∧ s.rxBusy = true ∧ leaveListening i s = clearAssembly s) ∨
    (¬(armed s i = true ∧ s.rxBusy = true) ∧ leaveListening i s = s) := by
  unfold leaveListening
  rcases dropAssembly_cases i s with ⟨h1, h2, h3⟩ | ⟨h1, h3⟩ <;> split <;> rename_i h
  · exact .inl ⟨by simp [armed, h1, h], h2, h3⟩
  · exact .inr ⟨by simp [armed, h], rfl⟩
  · exact .inr ⟨fun e => h1 ⟨by have := e.1; simp [armed] at this; exact this.1, e.2⟩, h3⟩
  · exact .inr ⟨by simp [armed, h], rfl⟩

/-! ### The next input (log 5) -/

@[simp] theorem dropInput_cfg (s : State) : (dropInput s).cfg = s.cfg := by
  unfold dropInput; split <;> rfl
@[simp] theorem dropInput_insts (s : State) : (dropInput s).insts = s.insts := by
  unfold dropInput; split <;> rfl
@[simp] theorem dropInput_reg (s : State) : (dropInput s).reg = s.reg := by
  unfold dropInput; split <;> rfl
@[simp] theorem dropInput_slots (s : State) : (dropInput s).slots = s.slots := by
  unfold dropInput; split <;> rfl
@[simp] theorem dropInput_head (s : State) : (dropInput s).head = s.head := by
  unfold dropInput; split <;> rfl
@[simp] theorem dropInput_tail (s : State) : (dropInput s).tail = s.tail := by
  unfold dropInput; split <;> rfl
@[simp] theorem dropInput_count (s : State) : (dropInput s).count = s.count := by
  unfold dropInput; split <;> rfl
@[simp] theorem dropInput_ovf (s : State) : (dropInput s).ovf = s.ovf := by
  unfold dropInput; split <;> rfl
@[simp] theorem dropInput_rxBusy (s : State) : (dropInput s).rxBusy = s.rxBusy := by
  unfold dropInput; split <;> rfl
@[simp] theorem dropInput_rxN (s : State) : (dropInput s).rxN = s.rxN := by
  unfold dropInput; split <;> rfl
@[simp] theorem dropInput_rxPat (s : State) : (dropInput s).rxPat = s.rxPat := by
  unfold dropInput; split <;> rfl
@[simp] theorem dropInput_rxT0 (s : State) : (dropInput s).rxT0 = s.rxT0 := by
  unfold dropInput; split <;> rfl
@[simp] theorem dropInput_txBusy (s : State) : (dropInput s).txBusy = s.txBusy := by
  unfold dropInput; split <;> rfl
@[simp] theorem dropInput_txInst (s : State) : (dropInput s).txInst = s.txInst := by
  unfold dropInput; split <;> rfl
@[simp] theorem dropInput_txSegs (s : State) : (dropInput s).txSegs = s.txSegs := by
  unfold dropInput; split <;> rfl
@[simp] theorem dropInput_txLeft (s : State) : (dropInput s).txLeft = s.txLeft := by
  unfold dropInput; split <;> rfl
@[simp] theorem dropInput_txLen (s : State) : (dropInput s).txLen = s.txLen := by
  unfold dropInput; split <;> rfl
@[simp] theorem dropInput_prev (s : State) : (dropInput s).prev = s.prev := by
  unfold dropInput; split <;> rfl
@[simp] theorem dropInput_now (s : State) : (dropInput s).now = s.now := by
  unfold dropInput; split <;> rfl
@[simp] theorem dropInput_fault (s : State) : (dropInput s).fault = s.fault := by
  unfold dropInput; split <;> rfl
@[simp] theorem dropInput_faultCw (s : State) : (dropInput s).faultCw = s.faultCw := by
  unfold dropInput; split <;> rfl
@[simp] theorem dropInput_faultCp (s : State) : (dropInput s).faultCp = s.faultCp := by
  unfold dropInput; split <;> rfl
@[simp] theorem dropInput_stream (s : State) : (dropInput s).stream = s.stream := by
  unfold dropInput; split <;> rfl
@[simp] theorem dropInput_cp (s : State) : (dropInput s).cp = s.cp := by
  unfold dropInput; split <;> rfl
@[simp] theorem dropInput_res (s : State) : (dropInput s).res = s.res := by
  unfold dropInput; split <;> rfl
@[simp] theorem dropInput_reslog (s : State) : (dropInput s).reslog = s.reslog := by
  unfold dropInput; split <;> rfl
@[simp] theorem dropInput_st (s : State) (j : InstId) : (dropInput s).st j = s.st j := by
  simp [State.st]
@[simp] theorem dropInput_pin (s : State) (j : InstId) : (dropInput s).pin j = s.pin j := by
  simp [State.pin]
@[simp] theorem dropInput_tmo (s : State) (j : InstId) : (dropInput s).tmo j = s.tmo j := by
  simp [State.tmo]

/-! ### Push (R79) -/

@[simp] theorem push_cfg (v : Byte) (s : State) : (push v s).cfg = s.cfg := by
  unfold push; split <;> rfl
@[simp] theorem push_insts (v : Byte) (s : State) : (push v s).insts = s.insts := by
  unfold push; split <;> rfl
@[simp] theorem push_reg (v : Byte) (s : State) : (push v s).reg = s.reg := by
  unfold push; split <;> rfl
@[simp] theorem push_tail (v : Byte) (s : State) : (push v s).tail = s.tail := by
  unfold push; split <;> rfl
@[simp] theorem push_rxBusy (v : Byte) (s : State) : (push v s).rxBusy = s.rxBusy := by
  unfold push; split <;> rfl
@[simp] theorem push_rxN (v : Byte) (s : State) : (push v s).rxN = s.rxN := by
  unfold push; split <;> rfl
@[simp] theorem push_rxPat (v : Byte) (s : State) : (push v s).rxPat = s.rxPat := by
  unfold push; split <;> rfl
@[simp] theorem push_rxT0 (v : Byte) (s : State) : (push v s).rxT0 = s.rxT0 := by
  unfold push; split <;> rfl
@[simp] theorem push_txBusy (v : Byte) (s : State) : (push v s).txBusy = s.txBusy := by
  unfold push; split <;> rfl
@[simp] theorem push_txInst (v : Byte) (s : State) : (push v s).txInst = s.txInst := by
  unfold push; split <;> rfl
@[simp] theorem push_txSegs (v : Byte) (s : State) : (push v s).txSegs = s.txSegs := by
  unfold push; split <;> rfl
@[simp] theorem push_txLeft (v : Byte) (s : State) : (push v s).txLeft = s.txLeft := by
  unfold push; split <;> rfl
@[simp] theorem push_txLen (v : Byte) (s : State) : (push v s).txLen = s.txLen := by
  unfold push; split <;> rfl
@[simp] theorem push_prev (v : Byte) (s : State) : (push v s).prev = s.prev := by
  unfold push; split <;> rfl
@[simp] theorem push_now (v : Byte) (s : State) : (push v s).now = s.now := by
  unfold push; split <;> rfl
@[simp] theorem push_fault (v : Byte) (s : State) : (push v s).fault = s.fault := by
  unfold push; split <;> rfl
@[simp] theorem push_faultCw (v : Byte) (s : State) : (push v s).faultCw = s.faultCw := by
  unfold push; split <;> rfl
@[simp] theorem push_faultCp (v : Byte) (s : State) : (push v s).faultCp = s.faultCp := by
  unfold push; split <;> rfl
@[simp] theorem push_stream (v : Byte) (s : State) : (push v s).stream = s.stream := by
  unfold push; split <;> rfl
@[simp] theorem push_cp (v : Byte) (s : State) : (push v s).cp = s.cp := by
  unfold push; split <;> rfl
@[simp] theorem push_res (v : Byte) (s : State) : (push v s).res = s.res := by
  unfold push; split <;> rfl
@[simp] theorem push_reslog (v : Byte) (s : State) : (push v s).reslog = s.reslog := by
  unfold push; split <;> rfl
@[simp] theorem push_inputs (v : Byte) (s : State) : (push v s).inputs = s.inputs := by
  unfold push; split <;> rfl
@[simp] theorem push_drawIndex (v : Byte) (s : State) : (push v s).drawIndex = s.drawIndex := by
  unfold push; split <;> rfl
@[simp] theorem push_st (v : Byte) (s : State) (j : InstId) : (push v s).st j = s.st j := by
  simp [State.st]
@[simp] theorem push_pin (v : Byte) (s : State) (j : InstId) : (push v s).pin j = s.pin j := by
  simp [State.pin]
@[simp] theorem push_tmo (v : Byte) (s : State) (j : InstId) : (push v s).tmo j = s.tmo j := by
  simp [State.tmo]

/-- Push with room. -/
theorem push_room (v : Byte) (s : State) (h : s.count.val < 75) :
    push v s = { memWrite s s.head v with head := nextSlot s.head, count := ⟨s.count.val + 1, by omega⟩ } :=
  dif_pos h

/-- Push on a full buffer. -/
theorem push_full (v : Byte) (s : State) (h : ¬ s.count.val < 75) : push v s = { s with ovf := true } :=
  dif_neg h

/-! ### The sampler (R72, R73) -/

@[simp] theorem completeChar_cfg (s : State) : (completeChar s).cfg = s.cfg := by
  unfold completeChar; split <;> simp
@[simp] theorem completeChar_insts (s : State) : (completeChar s).insts = s.insts := by
  unfold completeChar; split <;> simp
@[simp] theorem completeChar_reg (s : State) : (completeChar s).reg = s.reg := by
  unfold completeChar; split <;> simp
@[simp] theorem completeChar_tail (s : State) : (completeChar s).tail = s.tail := by
  unfold completeChar; split <;> simp
@[simp] theorem completeChar_rxT0 (s : State) : (completeChar s).rxT0 = s.rxT0 := by
  unfold completeChar; split <;> simp
@[simp] theorem completeChar_txBusy (s : State) : (completeChar s).txBusy = s.txBusy := by
  unfold completeChar; split <;> simp
@[simp] theorem completeChar_txInst (s : State) : (completeChar s).txInst = s.txInst := by
  unfold completeChar; split <;> simp
@[simp] theorem completeChar_txSegs (s : State) : (completeChar s).txSegs = s.txSegs := by
  unfold completeChar; split <;> simp
@[simp] theorem completeChar_txLeft (s : State) : (completeChar s).txLeft = s.txLeft := by
  unfold completeChar; split <;> simp
@[simp] theorem completeChar_txLen (s : State) : (completeChar s).txLen = s.txLen := by
  unfold completeChar; split <;> simp
@[simp] theorem completeChar_prev (s : State) : (completeChar s).prev = s.prev := by
  unfold completeChar; split <;> simp
@[simp] theorem completeChar_now (s : State) : (completeChar s).now = s.now := by
  unfold completeChar; split <;> simp
@[simp] theorem completeChar_fault (s : State) : (completeChar s).fault = s.fault := by
  unfold completeChar; split <;> simp
@[simp] theorem completeChar_faultCw (s : State) : (completeChar s).faultCw = s.faultCw := by
  unfold completeChar; split <;> simp
@[simp] theorem completeChar_faultCp (s : State) : (completeChar s).faultCp = s.faultCp := by
  unfold completeChar; split <;> simp
@[simp] theorem completeChar_stream (s : State) : (completeChar s).stream = s.stream := by
  unfold completeChar; split <;> simp
@[simp] theorem completeChar_cp (s : State) : (completeChar s).cp = s.cp := by
  unfold completeChar; split <;> simp
@[simp] theorem completeChar_res (s : State) : (completeChar s).res = s.res := by
  unfold completeChar; split <;> simp
@[simp] theorem completeChar_reslog (s : State) : (completeChar s).reslog = s.reslog := by
  unfold completeChar; split <;> simp
@[simp] theorem completeChar_inputs (s : State) : (completeChar s).inputs = s.inputs := by
  unfold completeChar; split <;> simp
@[simp] theorem completeChar_drawIndex (s : State) : (completeChar s).drawIndex = s.drawIndex := by
  unfold completeChar; split <;> simp
@[simp] theorem completeChar_st (s : State) (j : InstId) : (completeChar s).st j = s.st j := by
  simp [State.st]
@[simp] theorem completeChar_pin (s : State) (j : InstId) : (completeChar s).pin j = s.pin j := by
  simp [State.pin]
@[simp] theorem completeChar_tmo (s : State) (j : InstId) : (completeChar s).tmo j = s.tmo j := by
  simp [State.tmo]
@[simp] theorem takeSample_cfg (v : Level) (s : State) : (takeSample v s).cfg = s.cfg := by
  unfold takeSample; dsimp only; split <;> simp
@[simp] theorem takeSample_insts (v : Level) (s : State) : (takeSample v s).insts = s.insts := by
  unfold takeSample; dsimp only; split <;> simp
@[simp] theorem takeSample_reg (v : Level) (s : State) : (takeSample v s).reg = s.reg := by
  unfold takeSample; dsimp only; split <;> simp
@[simp] theorem takeSample_tail (v : Level) (s : State) : (takeSample v s).tail = s.tail := by
  unfold takeSample; dsimp only; split <;> simp
@[simp] theorem takeSample_rxT0 (v : Level) (s : State) : (takeSample v s).rxT0 = s.rxT0 := by
  unfold takeSample; dsimp only; split <;> simp
@[simp] theorem takeSample_txBusy (v : Level) (s : State) : (takeSample v s).txBusy = s.txBusy := by
  unfold takeSample; dsimp only; split <;> simp
@[simp] theorem takeSample_txInst (v : Level) (s : State) : (takeSample v s).txInst = s.txInst := by
  unfold takeSample; dsimp only; split <;> simp
@[simp] theorem takeSample_txSegs (v : Level) (s : State) : (takeSample v s).txSegs = s.txSegs := by
  unfold takeSample; dsimp only; split <;> simp
@[simp] theorem takeSample_txLeft (v : Level) (s : State) : (takeSample v s).txLeft = s.txLeft := by
  unfold takeSample; dsimp only; split <;> simp
@[simp] theorem takeSample_txLen (v : Level) (s : State) : (takeSample v s).txLen = s.txLen := by
  unfold takeSample; dsimp only; split <;> simp
@[simp] theorem takeSample_prev (v : Level) (s : State) : (takeSample v s).prev = s.prev := by
  unfold takeSample; dsimp only; split <;> simp
@[simp] theorem takeSample_now (v : Level) (s : State) : (takeSample v s).now = s.now := by
  unfold takeSample; dsimp only; split <;> simp
@[simp] theorem takeSample_fault (v : Level) (s : State) : (takeSample v s).fault = s.fault := by
  unfold takeSample; dsimp only; split <;> simp
@[simp] theorem takeSample_faultCw (v : Level) (s : State) : (takeSample v s).faultCw = s.faultCw := by
  unfold takeSample; dsimp only; split <;> simp
@[simp] theorem takeSample_faultCp (v : Level) (s : State) : (takeSample v s).faultCp = s.faultCp := by
  unfold takeSample; dsimp only; split <;> simp
@[simp] theorem takeSample_stream (v : Level) (s : State) : (takeSample v s).stream = s.stream := by
  unfold takeSample; dsimp only; split <;> simp
@[simp] theorem takeSample_cp (v : Level) (s : State) : (takeSample v s).cp = s.cp := by
  unfold takeSample; dsimp only; split <;> simp
@[simp] theorem takeSample_res (v : Level) (s : State) : (takeSample v s).res = s.res := by
  unfold takeSample; dsimp only; split <;> simp
@[simp] theorem takeSample_reslog (v : Level) (s : State) : (takeSample v s).reslog = s.reslog := by
  unfold takeSample; dsimp only; split <;> simp
@[simp] theorem takeSample_inputs (v : Level) (s : State) : (takeSample v s).inputs = s.inputs := by
  unfold takeSample; dsimp only; split <;> simp
@[simp] theorem takeSample_drawIndex (v : Level) (s : State) : (takeSample v s).drawIndex = s.drawIndex := by
  unfold takeSample; dsimp only; split <;> simp
@[simp] theorem takeSample_st (v : Level) (s : State) (j : InstId) : (takeSample v s).st j = s.st j := by
  simp [State.st]
@[simp] theorem takeSample_pin (v : Level) (s : State) (j : InstId) : (takeSample v s).pin j = s.pin j := by
  simp [State.pin]
@[simp] theorem takeSample_tmo (v : Level) (s : State) (j : InstId) : (takeSample v s).tmo j = s.tmo j := by
  simp [State.tmo]
@[simp] theorem samplePhase_cfg (lvl : PinId → Level) (s : State) : (samplePhase lvl s).cfg = s.cfg := by
  unfold samplePhase; split <;> (try split) <;> simp
@[simp] theorem samplePhase_insts (lvl : PinId → Level) (s : State) : (samplePhase lvl s).insts = s.insts := by
  unfold samplePhase; split <;> (try split) <;> simp
@[simp] theorem samplePhase_reg (lvl : PinId → Level) (s : State) : (samplePhase lvl s).reg = s.reg := by
  unfold samplePhase; split <;> (try split) <;> simp
@[simp] theorem samplePhase_tail (lvl : PinId → Level) (s : State) : (samplePhase lvl s).tail = s.tail := by
  unfold samplePhase; split <;> (try split) <;> simp
@[simp] theorem samplePhase_rxT0 (lvl : PinId → Level) (s : State) : (samplePhase lvl s).rxT0 = s.rxT0 := by
  unfold samplePhase; split <;> (try split) <;> simp
@[simp] theorem samplePhase_txBusy (lvl : PinId → Level) (s : State) : (samplePhase lvl s).txBusy = s.txBusy := by
  unfold samplePhase; split <;> (try split) <;> simp
@[simp] theorem samplePhase_txInst (lvl : PinId → Level) (s : State) : (samplePhase lvl s).txInst = s.txInst := by
  unfold samplePhase; split <;> (try split) <;> simp
@[simp] theorem samplePhase_txSegs (lvl : PinId → Level) (s : State) : (samplePhase lvl s).txSegs = s.txSegs := by
  unfold samplePhase; split <;> (try split) <;> simp
@[simp] theorem samplePhase_txLeft (lvl : PinId → Level) (s : State) : (samplePhase lvl s).txLeft = s.txLeft := by
  unfold samplePhase; split <;> (try split) <;> simp
@[simp] theorem samplePhase_txLen (lvl : PinId → Level) (s : State) : (samplePhase lvl s).txLen = s.txLen := by
  unfold samplePhase; split <;> (try split) <;> simp
@[simp] theorem samplePhase_prev (lvl : PinId → Level) (s : State) : (samplePhase lvl s).prev = s.prev := by
  unfold samplePhase; split <;> (try split) <;> simp
@[simp] theorem samplePhase_now (lvl : PinId → Level) (s : State) : (samplePhase lvl s).now = s.now := by
  unfold samplePhase; split <;> (try split) <;> simp
@[simp] theorem samplePhase_fault (lvl : PinId → Level) (s : State) : (samplePhase lvl s).fault = s.fault := by
  unfold samplePhase; split <;> (try split) <;> simp
@[simp] theorem samplePhase_faultCw (lvl : PinId → Level) (s : State) : (samplePhase lvl s).faultCw = s.faultCw := by
  unfold samplePhase; split <;> (try split) <;> simp
@[simp] theorem samplePhase_faultCp (lvl : PinId → Level) (s : State) : (samplePhase lvl s).faultCp = s.faultCp := by
  unfold samplePhase; split <;> (try split) <;> simp
@[simp] theorem samplePhase_stream (lvl : PinId → Level) (s : State) : (samplePhase lvl s).stream = s.stream := by
  unfold samplePhase; split <;> (try split) <;> simp
@[simp] theorem samplePhase_cp (lvl : PinId → Level) (s : State) : (samplePhase lvl s).cp = s.cp := by
  unfold samplePhase; split <;> (try split) <;> simp
@[simp] theorem samplePhase_res (lvl : PinId → Level) (s : State) : (samplePhase lvl s).res = s.res := by
  unfold samplePhase; split <;> (try split) <;> simp
@[simp] theorem samplePhase_reslog (lvl : PinId → Level) (s : State) : (samplePhase lvl s).reslog = s.reslog := by
  unfold samplePhase; split <;> (try split) <;> simp
@[simp] theorem samplePhase_inputs (lvl : PinId → Level) (s : State) : (samplePhase lvl s).inputs = s.inputs := by
  unfold samplePhase; split <;> (try split) <;> simp
@[simp] theorem samplePhase_drawIndex (lvl : PinId → Level) (s : State) : (samplePhase lvl s).drawIndex = s.drawIndex := by
  unfold samplePhase; split <;> (try split) <;> simp
@[simp] theorem samplePhase_st (lvl : PinId → Level) (s : State) (j : InstId) : (samplePhase lvl s).st j = s.st j := by
  simp [State.st]
@[simp] theorem samplePhase_pin (lvl : PinId → Level) (s : State) (j : InstId) : (samplePhase lvl s).pin j = s.pin j := by
  simp [State.pin]
@[simp] theorem samplePhase_tmo (lvl : PinId → Level) (s : State) (j : InstId) : (samplePhase lvl s).tmo j = s.tmo j := by
  simp [State.tmo]

/-! ### The interrupt (R69, R70, R107) -/

@[simp] theorem startDetect_cfg (lvl : PinId → Level) (a : InstId) (s : State) : (startDetect lvl a s).cfg = s.cfg := by
  unfold startDetect; split <;> rfl
@[simp] theorem startDetect_insts (lvl : PinId → Level) (a : InstId) (s : State) : (startDetect lvl a s).insts = s.insts := by
  unfold startDetect; split <;> rfl
@[simp] theorem startDetect_reg (lvl : PinId → Level) (a : InstId) (s : State) : (startDetect lvl a s).reg = s.reg := by
  unfold startDetect; split <;> rfl
@[simp] theorem startDetect_slots (lvl : PinId → Level) (a : InstId) (s : State) : (startDetect lvl a s).slots = s.slots := by
  unfold startDetect; split <;> rfl
@[simp] theorem startDetect_head (lvl : PinId → Level) (a : InstId) (s : State) : (startDetect lvl a s).head = s.head := by
  unfold startDetect; split <;> rfl
@[simp] theorem startDetect_tail (lvl : PinId → Level) (a : InstId) (s : State) : (startDetect lvl a s).tail = s.tail := by
  unfold startDetect; split <;> rfl
@[simp] theorem startDetect_count (lvl : PinId → Level) (a : InstId) (s : State) : (startDetect lvl a s).count = s.count := by
  unfold startDetect; split <;> rfl
@[simp] theorem startDetect_ovf (lvl : PinId → Level) (a : InstId) (s : State) : (startDetect lvl a s).ovf = s.ovf := by
  unfold startDetect; split <;> rfl
@[simp] theorem startDetect_txBusy (lvl : PinId → Level) (a : InstId) (s : State) : (startDetect lvl a s).txBusy = s.txBusy := by
  unfold startDetect; split <;> rfl
@[simp] theorem startDetect_txInst (lvl : PinId → Level) (a : InstId) (s : State) : (startDetect lvl a s).txInst = s.txInst := by
  unfold startDetect; split <;> rfl
@[simp] theorem startDetect_txSegs (lvl : PinId → Level) (a : InstId) (s : State) : (startDetect lvl a s).txSegs = s.txSegs := by
  unfold startDetect; split <;> rfl
@[simp] theorem startDetect_txLeft (lvl : PinId → Level) (a : InstId) (s : State) : (startDetect lvl a s).txLeft = s.txLeft := by
  unfold startDetect; split <;> rfl
@[simp] theorem startDetect_txLen (lvl : PinId → Level) (a : InstId) (s : State) : (startDetect lvl a s).txLen = s.txLen := by
  unfold startDetect; split <;> rfl
@[simp] theorem startDetect_prev (lvl : PinId → Level) (a : InstId) (s : State) : (startDetect lvl a s).prev = s.prev := by
  unfold startDetect; split <;> rfl
@[simp] theorem startDetect_now (lvl : PinId → Level) (a : InstId) (s : State) : (startDetect lvl a s).now = s.now := by
  unfold startDetect; split <;> rfl
@[simp] theorem startDetect_fault (lvl : PinId → Level) (a : InstId) (s : State) : (startDetect lvl a s).fault = s.fault := by
  unfold startDetect; split <;> rfl
@[simp] theorem startDetect_faultCw (lvl : PinId → Level) (a : InstId) (s : State) : (startDetect lvl a s).faultCw = s.faultCw := by
  unfold startDetect; split <;> rfl
@[simp] theorem startDetect_faultCp (lvl : PinId → Level) (a : InstId) (s : State) : (startDetect lvl a s).faultCp = s.faultCp := by
  unfold startDetect; split <;> rfl
@[simp] theorem startDetect_stream (lvl : PinId → Level) (a : InstId) (s : State) : (startDetect lvl a s).stream = s.stream := by
  unfold startDetect; split <;> rfl
@[simp] theorem startDetect_cp (lvl : PinId → Level) (a : InstId) (s : State) : (startDetect lvl a s).cp = s.cp := by
  unfold startDetect; split <;> rfl
@[simp] theorem startDetect_res (lvl : PinId → Level) (a : InstId) (s : State) : (startDetect lvl a s).res = s.res := by
  unfold startDetect; split <;> rfl
@[simp] theorem startDetect_reslog (lvl : PinId → Level) (a : InstId) (s : State) : (startDetect lvl a s).reslog = s.reslog := by
  unfold startDetect; split <;> rfl
@[simp] theorem startDetect_inputs (lvl : PinId → Level) (a : InstId) (s : State) : (startDetect lvl a s).inputs = s.inputs := by
  unfold startDetect; split <;> rfl
@[simp] theorem startDetect_drawIndex (lvl : PinId → Level) (a : InstId) (s : State) : (startDetect lvl a s).drawIndex = s.drawIndex := by
  unfold startDetect; split <;> rfl
@[simp] theorem startDetect_st (lvl : PinId → Level) (a : InstId) (s : State) (j : InstId) : (startDetect lvl a s).st j = s.st j := by
  simp [State.st]
@[simp] theorem startDetect_pin (lvl : PinId → Level) (a : InstId) (s : State) (j : InstId) : (startDetect lvl a s).pin j = s.pin j := by
  simp [State.pin]
@[simp] theorem startDetect_tmo (lvl : PinId → Level) (a : InstId) (s : State) (j : InstId) : (startDetect lvl a s).tmo j = s.tmo j := by
  simp [State.tmo]
@[simp] theorem interruptPhase_cfg (lvl : PinId → Level) (s : State) : (interruptPhase lvl s).cfg = s.cfg := by
  unfold interruptPhase isr; split <;> (try split) <;> simp
@[simp] theorem interruptPhase_insts (lvl : PinId → Level) (s : State) : (interruptPhase lvl s).insts = s.insts := by
  unfold interruptPhase isr; split <;> (try split) <;> simp
@[simp] theorem interruptPhase_reg (lvl : PinId → Level) (s : State) : (interruptPhase lvl s).reg = s.reg := by
  unfold interruptPhase isr; split <;> (try split) <;> simp
@[simp] theorem interruptPhase_slots (lvl : PinId → Level) (s : State) : (interruptPhase lvl s).slots = s.slots := by
  unfold interruptPhase isr; split <;> (try split) <;> simp
@[simp] theorem interruptPhase_head (lvl : PinId → Level) (s : State) : (interruptPhase lvl s).head = s.head := by
  unfold interruptPhase isr; split <;> (try split) <;> simp
@[simp] theorem interruptPhase_tail (lvl : PinId → Level) (s : State) : (interruptPhase lvl s).tail = s.tail := by
  unfold interruptPhase isr; split <;> (try split) <;> simp
@[simp] theorem interruptPhase_count (lvl : PinId → Level) (s : State) : (interruptPhase lvl s).count = s.count := by
  unfold interruptPhase isr; split <;> (try split) <;> simp
@[simp] theorem interruptPhase_ovf (lvl : PinId → Level) (s : State) : (interruptPhase lvl s).ovf = s.ovf := by
  unfold interruptPhase isr; split <;> (try split) <;> simp
@[simp] theorem interruptPhase_txBusy (lvl : PinId → Level) (s : State) : (interruptPhase lvl s).txBusy = s.txBusy := by
  unfold interruptPhase isr; split <;> (try split) <;> simp
@[simp] theorem interruptPhase_txInst (lvl : PinId → Level) (s : State) : (interruptPhase lvl s).txInst = s.txInst := by
  unfold interruptPhase isr; split <;> (try split) <;> simp
@[simp] theorem interruptPhase_txSegs (lvl : PinId → Level) (s : State) : (interruptPhase lvl s).txSegs = s.txSegs := by
  unfold interruptPhase isr; split <;> (try split) <;> simp
@[simp] theorem interruptPhase_txLeft (lvl : PinId → Level) (s : State) : (interruptPhase lvl s).txLeft = s.txLeft := by
  unfold interruptPhase isr; split <;> (try split) <;> simp
@[simp] theorem interruptPhase_txLen (lvl : PinId → Level) (s : State) : (interruptPhase lvl s).txLen = s.txLen := by
  unfold interruptPhase isr; split <;> (try split) <;> simp
@[simp] theorem interruptPhase_prev (lvl : PinId → Level) (s : State) : (interruptPhase lvl s).prev = s.prev := by
  unfold interruptPhase isr; split <;> (try split) <;> simp
@[simp] theorem interruptPhase_now (lvl : PinId → Level) (s : State) : (interruptPhase lvl s).now = s.now := by
  unfold interruptPhase isr; split <;> (try split) <;> simp
@[simp] theorem interruptPhase_fault (lvl : PinId → Level) (s : State) : (interruptPhase lvl s).fault = s.fault := by
  unfold interruptPhase isr; split <;> (try split) <;> simp
@[simp] theorem interruptPhase_faultCw (lvl : PinId → Level) (s : State) : (interruptPhase lvl s).faultCw = s.faultCw := by
  unfold interruptPhase isr; split <;> (try split) <;> simp
@[simp] theorem interruptPhase_faultCp (lvl : PinId → Level) (s : State) : (interruptPhase lvl s).faultCp = s.faultCp := by
  unfold interruptPhase isr; split <;> (try split) <;> simp
@[simp] theorem interruptPhase_stream (lvl : PinId → Level) (s : State) : (interruptPhase lvl s).stream = s.stream := by
  unfold interruptPhase isr; split <;> (try split) <;> simp
@[simp] theorem interruptPhase_cp (lvl : PinId → Level) (s : State) : (interruptPhase lvl s).cp = s.cp := by
  unfold interruptPhase isr; split <;> (try split) <;> simp
@[simp] theorem interruptPhase_res (lvl : PinId → Level) (s : State) : (interruptPhase lvl s).res = s.res := by
  unfold interruptPhase isr; split <;> (try split) <;> simp
@[simp] theorem interruptPhase_reslog (lvl : PinId → Level) (s : State) : (interruptPhase lvl s).reslog = s.reslog := by
  unfold interruptPhase isr; split <;> (try split) <;> simp
@[simp] theorem interruptPhase_inputs (lvl : PinId → Level) (s : State) : (interruptPhase lvl s).inputs = s.inputs := by
  unfold interruptPhase isr; split <;> (try split) <;> simp
@[simp] theorem interruptPhase_drawIndex (lvl : PinId → Level) (s : State) : (interruptPhase lvl s).drawIndex = s.drawIndex := by
  unfold interruptPhase isr; split <;> (try split) <;> simp
@[simp] theorem interruptPhase_st (lvl : PinId → Level) (s : State) (j : InstId) : (interruptPhase lvl s).st j = s.st j := by
  simp [State.st]
@[simp] theorem interruptPhase_pin (lvl : PinId → Level) (s : State) (j : InstId) : (interruptPhase lvl s).pin j = s.pin j := by
  simp [State.pin]
@[simp] theorem interruptPhase_tmo (lvl : PinId → Level) (s : State) (j : InstId) : (interruptPhase lvl s).tmo j = s.tmo j := by
  simp [State.tmo]

/-! ### The transmit phase (R97) -/

@[simp] theorem transmitPhase_cfg (s : State) : (transmitPhase s).cfg = s.cfg := by
  unfold transmitPhase; repeat' split
  all_goals simp
@[simp] theorem transmitPhase_reg (s : State) : (transmitPhase s).reg = s.reg := by
  unfold transmitPhase; repeat' split
  all_goals simp
@[simp] theorem transmitPhase_slots (s : State) : (transmitPhase s).slots = s.slots := by
  unfold transmitPhase; repeat' split
  all_goals simp
@[simp] theorem transmitPhase_head (s : State) : (transmitPhase s).head = s.head := by
  unfold transmitPhase; repeat' split
  all_goals simp
@[simp] theorem transmitPhase_tail (s : State) : (transmitPhase s).tail = s.tail := by
  unfold transmitPhase; repeat' split
  all_goals simp
@[simp] theorem transmitPhase_count (s : State) : (transmitPhase s).count = s.count := by
  unfold transmitPhase; repeat' split
  all_goals simp
@[simp] theorem transmitPhase_ovf (s : State) : (transmitPhase s).ovf = s.ovf := by
  unfold transmitPhase; repeat' split
  all_goals simp
@[simp] theorem transmitPhase_rxBusy (s : State) : (transmitPhase s).rxBusy = s.rxBusy := by
  unfold transmitPhase; repeat' split
  all_goals simp
@[simp] theorem transmitPhase_rxN (s : State) : (transmitPhase s).rxN = s.rxN := by
  unfold transmitPhase; repeat' split
  all_goals simp
@[simp] theorem transmitPhase_rxPat (s : State) : (transmitPhase s).rxPat = s.rxPat := by
  unfold transmitPhase; repeat' split
  all_goals simp
@[simp] theorem transmitPhase_rxT0 (s : State) : (transmitPhase s).rxT0 = s.rxT0 := by
  unfold transmitPhase; repeat' split
  all_goals simp
@[simp] theorem transmitPhase_txInst (s : State) : (transmitPhase s).txInst = s.txInst := by
  unfold transmitPhase; repeat' split
  all_goals simp
@[simp] theorem transmitPhase_prev (s : State) : (transmitPhase s).prev = s.prev := by
  unfold transmitPhase; repeat' split
  all_goals simp
@[simp] theorem transmitPhase_now (s : State) : (transmitPhase s).now = s.now := by
  unfold transmitPhase; repeat' split
  all_goals simp
@[simp] theorem transmitPhase_fault (s : State) : (transmitPhase s).fault = s.fault := by
  unfold transmitPhase; repeat' split
  all_goals simp
@[simp] theorem transmitPhase_faultCw (s : State) : (transmitPhase s).faultCw = s.faultCw := by
  unfold transmitPhase; repeat' split
  all_goals simp
@[simp] theorem transmitPhase_faultCp (s : State) : (transmitPhase s).faultCp = s.faultCp := by
  unfold transmitPhase; repeat' split
  all_goals simp
@[simp] theorem transmitPhase_stream (s : State) : (transmitPhase s).stream = s.stream := by
  unfold transmitPhase; repeat' split
  all_goals simp
@[simp] theorem transmitPhase_inputs (s : State) : (transmitPhase s).inputs = s.inputs := by
  unfold transmitPhase; repeat' split
  all_goals simp
@[simp] theorem transmitPhase_drawIndex (s : State) : (transmitPhase s).drawIndex = s.drawIndex := by
  unfold transmitPhase; repeat' split
  all_goals simp
@[simp] theorem transmitPhase_pin (s : State) (j : InstId) : (transmitPhase s).pin j = s.pin j := by
  unfold transmitPhase; repeat' split
  all_goals first | exact pin_endOfFrame _ _ _ _ | rfl
@[simp] theorem transmitPhase_tmo (s : State) (j : InstId) : (transmitPhase s).tmo j = s.tmo j := by
  unfold transmitPhase; repeat' split
  all_goals first | exact tmo_endOfFrame _ _ _ _ | rfl

/-- What the transmit phase can do (R97): nothing, count down, take the next segment, or end the frame. -/
theorem transmitPhase_cases (s : State) :
    (s.txBusy = false ∧ transmitPhase s = s) ∨
    (s.txBusy = true ∧ s.txLeft ≠ 1 ∧ transmitPhase s = { s with txLeft := s.txLeft - 1 }) ∨
    (s.txBusy = true ∧ s.txLeft = 1 ∧ ∃ g gs, s.txSegs.tail = g :: gs ∧
      transmitPhase s = { s with txSegs := g :: gs, txLeft := segTicks g }) ∨
    (s.txBusy = true ∧ s.txLeft = 1 ∧ s.txSegs.tail = [] ∧ transmitPhase s = endOfFrame s.txInst s.txLen s) := by
  have hiff : s.txLeft - 1 = 0 ↔ s.txLeft = 1 := by bv_omega
  unfold transmitPhase
  split
  · rename_i hb
    split
    · rename_i h1
      split
      · rename_i ht
        exact .inr (.inr (.inr ⟨hb, hiff.mp h1, ht, rfl⟩))
      · rename_i g gs ht
        exact .inr (.inr (.inl ⟨hb, hiff.mp h1, g, gs, ht, rfl⟩))
    · rename_i h1
      exact .inr (.inl ⟨hb, fun e => h1 (hiff.mpr e), rfl⟩)
  · rename_i hb
    exact .inl ⟨by simpa using hb, rfl⟩

/-- What the sample phase can do (R72): nothing, or take the sample that is due. -/
theorem samplePhase_cases (lvl : PinId → Level) (s : State) :
    samplePhase lvl s = s ∧ (∀ a, s.reg = some a → s.rxBusy = true →
        elapsed s ≠ sampleOffset s.cfg.bitTicks s.rxN.val) ∨
    ∃ a, s.reg = some a ∧ s.rxBusy = true ∧ elapsed s = sampleOffset s.cfg.bitTicks s.rxN.val ∧
      samplePhase lvl s = takeSample (lvl (s.pin a)) s := by
  unfold samplePhase
  split
  · rename_i h; exact .inl ⟨rfl, by simp [h]⟩
  · rename_i a h
    split
    · rename_i hc; exact .inr ⟨a, h, hc.1, hc.2, rfl⟩
    · rename_i hc
      exact .inl ⟨rfl, fun a' _ hb he => hc ⟨hb, he⟩⟩

/-- What taking a sample does (R72, R73): the next sample awaited, or the character completed. -/
theorem takeSample_cases (v : Level) (s : State) :
    (∃ h : s.rxN.val < 8, takeSample v s =
      { s with rxPat := setSample s.rxPat s.rxN.val v, rxN := ⟨s.rxN.val + 1, by omega⟩ }) ∨
    (s.rxN.val = 8 ∧ takeSample v s = completeChar { s with rxPat := setSample s.rxPat s.rxN.val v }) := by
  unfold takeSample
  dsimp only
  split
  · rename_i h; exact .inl ⟨h, rfl⟩
  · rename_i h; exact .inr ⟨by have := s.rxN.isLt; omega, rfl⟩

/-- What completing a character does (R73). -/
theorem completeChar_cases (s : State) :
    (patValid s.rxPat = true ∧ completeChar s = clearAssembly (push ((patData s.rxPat).setWidth 8) s)) ∨
    (patValid s.rxPat = false ∧ completeChar s = clearAssembly s) := by
  unfold completeChar
  split
  · rename_i h; exact .inl ⟨h, rfl⟩
  · rename_i h; exact .inr ⟨by simpa using h, rfl⟩

/-- A request exists exactly on an edge at the pin of the active instance, when it listens (R69). -/
theorem irqRequest_iff (lvl : PinId → Level) (s : State) :
    irqRequest lvl s = true ↔
      ∃ a, s.reg = some a ∧ s.st a = .listening ∧ lvl (s.pin a) ≠ prevLevel s (s.pin a) := by
  have hall : ∀ a : InstId, a ∈ allInst := by decide
  simp only [irqRequest, List.any_eq_true, armed, edge, Bool.and_eq_true, beq_iff_eq, bne_iff_ne, and_assoc]
  exact ⟨fun ⟨a, _, h⟩ => ⟨a, h⟩, fun ⟨a, h⟩ => ⟨a, hall a, h⟩⟩

/-- What the interrupt phase can do (R70, R71): nothing, or start an assembly for the armed instance. -/
theorem interruptPhase_cases (lvl : PinId → Level) (s : State) :
    (interruptPhase lvl s = s ∧ ∀ a, armed s a = true → s.rxBusy = true ∨ fall lvl s (s.pin a) = false) ∨
    ∃ a, armed s a = true ∧ s.rxBusy = false ∧ fall lvl s (s.pin a) = true ∧
      interruptPhase lvl s = { s with rxBusy := true, rxT0 := s.now, rxN := 0, rxPat := 0 } := by
  unfold interruptPhase
  split
  · rename_i hr
    obtain ⟨a, ha, hl, he⟩ := (irqRequest_iff lvl s).mp hr
    have harm : armed s a = true := by simp [armed, ha, hl]
    simp only [isr, ha, startDetect]
    split
    · rename_i hc; exact .inr ⟨a, harm, hc.1, hc.2, rfl⟩
    · rename_i hc
      refine .inl ⟨rfl, fun b hb => ?_⟩
      simp only [armed, ha, Bool.and_eq_true, beq_iff_eq, Option.some.injEq] at hb
      obtain ⟨rfl, -⟩ := hb
      by_cases hbusy : s.rxBusy = true
      · exact .inl hbusy
      · exact .inr (by simpa [hbusy] using hc)
  · rename_i hr
    refine .inl ⟨rfl, fun a ha => .inr ?_⟩
    simp only [armed, Bool.and_eq_true, beq_iff_eq] at ha
    have hne : ¬ lvl (s.pin a) ≠ prevLevel s (s.pin a) := fun h => hr ((irqRequest_iff lvl s).mpr ⟨a, ha.1, ha.2, h⟩)
    have heq : lvl (s.pin a) = prevLevel s (s.pin a) := by simpa using hne
    simp only [fall, heq]
    cases prevLevel s (s.pin a) <;> rfl

end Sys2Proof.Machine
end

