-- ==== Sys2Proof/Laws/Commands.lean ====
section
/-! SUPPORT. What a command can do and what a step can do, said once: every later proof about `exec` or `step`
cites `exec_effect` or `step_cases` instead of unfolding them. -/

namespace Sys2Proof.Machine

/-- Every instance is among those "for each instance" ranges over. -/
theorem mem_allInst : ∀ i : InstId, i ∈ allInst := by decide

theorem instExists_iff (s : State) (i : InstId) : instExists s i = true ↔ i.val < s.cfg.nInst := by
  simp [instExists]

theorem pinExists_iff (s : State) (p : PinId) : pinExists s p = true ↔ p.toNat < s.cfg.nPins := by
  simp [pinExists]

/-- The pin check of R60 and R61. -/
theorem pinInUse_iff (s : State) (i : InstId) (p : PinId) :
    pinInUse s i p = true ↔ ∃ j : InstId, j.val < s.cfg.nInst ∧ j ≠ i ∧ s.st j ≠ .disabled ∧ s.pin j = p := by
  simp only [pinInUse, List.any_eq_true, instExists, Bool.and_eq_true, Nat.blt_eq, beq_iff_eq, bne_iff_ne, and_assoc]
  exact ⟨fun ⟨a, _, h⟩ => ⟨a, h⟩, fun ⟨a, h⟩ => ⟨a, mem_allInst a, h⟩⟩

theorem armed_iff (s : State) (i : InstId) : armed s i = true ↔ s.reg = some i ∧ s.st i = .listening := by
  simp [armed]

/-- Writing the pin an instance has changes nothing. -/
theorem setPin_self (s : State) (i : InstId) : s.setPin i (s.pin i) = s := by
  unfold State.setPin State.pin
  have : s.insts.set i { s.insts[i] with pin := (s.insts[i]).pin } = s.insts := by
    ext k hk
    by_cases h : i.val = k <;> simp [h]
  rw [this]

/-- What END does to the registry and the assembly (R62). -/
theorem releaseRegistry_cases (i : InstId) (s : State) :
    (s.reg = some i ∧ releaseRegistry i s = { dropAssembly i s with reg := none }) ∨
    (s.reg ≠ some i ∧ releaseRegistry i s = s) := by
  unfold releaseRegistry
  split
  · rename_i h; exact .inl ⟨h, rfl⟩
  · rename_i h; exact .inr ⟨h, rfl⟩

/-- What a command can leave behind, from state s: one constructor per kind of effect (R53, R60 to R64, R82, R83,
R86, R89, R93, R98, R103). -/
inductive CommandEffect (s : State) (c : Instr) : State → Prop where
  | faulted (k : Cause) : CommandEffect s c (raiseFault k c.cw s)
  | answered (w : Word) : CommandEffect s c (retire c.length w s)
  | enabled (p : PinId) (hst : s.st c.inst = .disabled) (hi : instExists s c.inst = true)
      (hp : pinExists s p = true) (hu : pinInUse s c.inst p = false)
      (hc : c = .beginInst c.inst ∨ c = .beginPin c.inst p) :
      CommandEffect s c (retire c.length 0 ((s.setPin c.inst p).setSt c.inst .enabled))
  | disabled (hst : s.st c.inst ≠ .disabled) (hc : c = .endInst c.inst) :
      CommandEffect s c (retire c.length 0 ((releaseRegistry c.inst s).setSt c.inst .disabled))
  | held (hst : s.st c.inst ≠ .disabled) (hc : c = .forceHold c.inst) :
      CommandEffect s c (retire c.length 0 ((leaveListening c.inst s).setSt c.inst .holding))
  | listening (hst : s.st c.inst ≠ .disabled) (hc : c = .forceListen c.inst) :
      CommandEffect s c (retire c.length 0 (s.setSt c.inst .listening))
  | activated (hst : s.st c.inst ≠ .disabled) (hreg : s.reg ≠ some c.inst) (hrx : s.rxBusy = false)
      (hc : c = .setActive c.inst) : CommandEffect s c (retire c.length 1 { s with reg := some c.inst })
  | timeoutSet (v : Word) (hc : c = .setTimeout c.inst v) :
      CommandEffect s c (retire c.length 0 (s.setTmo c.inst v))
  | byteRead (hn : s.count ≠ 0) (hc : c = .read c.inst) :
      CommandEffect s c (retire c.length (byteWord (memRead s s.tail)) (dropOldest s))
  | cleared (hc : c = .clearBuffer c.inst) : CommandEffect s c (retire c.length 0 (emptyBuffer s))
  | sending (segs : List Seg) (g : Seg) (gs : List Seg) (hi : instExists s c.inst = true)
      (hst : s.st c.inst ≠ .disabled) (hd : driveable segs = g :: gs)
      (hc : (∃ b, c = .write c.inst b ∧ segs = charSegs s.cfg.bitTicks b) ∨
        (∃ t, c = .sendCommand c.inst t ∧ segs = commandSegs s.cfg t) ∨
        (∃ t, c = .sendResponse c.inst t ∧ segs = responseSegs s.cfg t)) :
      CommandEffect s c (beginFrame c.inst g gs c.length (leaveListening c.inst s))
  | sentNothing (segs : List Seg) (hi : instExists s c.inst = true)
      (hst : s.st c.inst ≠ .disabled) (hd : driveable segs = [])
      (hc : (∃ b, c = .write c.inst b ∧ segs = charSegs s.cfg.bitTicks b) ∨
        (∃ t, c = .sendCommand c.inst t ∧ segs = commandSegs s.cfg t) ∨
        (∃ t, c = .sendResponse c.inst t ∧ segs = responseSegs s.cfg t)) :
      CommandEffect s c (endOfFrame c.inst c.length ((leaveListening c.inst s).setSt c.inst .transmitting))

/-- A command's own rule runs only on an instance that exists (R51). -/
theorem onInstance_effect {c : Instr} {s t : State} {body : Result}
    (h : onInstance c.inst c.cw s body = .next t)
    (hb : instExists s c.inst = true → body = .next t → CommandEffect s c t) : CommandEffect s c t := by
  unfold onInstance at h
  split at h
  · rename_i he; exact hb he h
  · cases h; exact .faulted .inst

/-- The common body of the transmit commands (R93). -/
theorem startTx_effect {c : Instr} {s t : State} {segs : List Seg} (hi : instExists s c.inst = true)
    (hc : (∃ b, c = .write c.inst b ∧ segs = charSegs s.cfg.bitTicks b) ∨
      (∃ t, c = .sendCommand c.inst t ∧ segs = commandSegs s.cfg t) ∨
      (∃ t, c = .sendResponse c.inst t ∧ segs = responseSegs s.cfg t))
    (h : startTx c.inst segs c.cw c.length s = .next t) : CommandEffect s c t := by
  unfold startTx at h
  split at h
  · cases h; exact .faulted .state
  · rename_i hst
    split at h <;> cases h
    · rename_i hd; exact .sentNothing segs hi hst hd hc
    · rename_i g gs hd; exact .sending segs g gs hi hst hd hc

/-- What a command can do: `exec` leaves one of the effects. -/
theorem exec_effect {c : Instr} {s t : State} (h : exec c s = .next t) : CommandEffect s c t := by
  cases c with
  | beginInst i =>
    refine onInstance_effect (c := .beginInst i) h (fun hi h => ?_)
    split at h
    · cases h; exact .faulted .state
    · split at h
      · cases h; exact .faulted .pin
      · split at h <;> cases h
        · exact .faulted .pinInUse
        · rename_i h1 h2 h3
          have := CommandEffect.enabled (c := .beginInst i) (s.pin i) (Decidable.not_not.mp h1) hi (by simpa using h2)
            (Bool.eq_false_iff.mpr h3) (.inl rfl)
          rwa [show (Instr.beginInst i).inst = i from rfl, setPin_self] at this
  | beginPin i p =>
    refine onInstance_effect (c := .beginPin i p) h (fun hi h => ?_)
    split at h
    · cases h; exact .faulted .state
    · split at h
      · cases h; exact .faulted .pin
      · split at h <;> cases h
        · exact .faulted .pinInUse
        · rename_i h1 h2 h3
          exact .enabled p (Decidable.not_not.mp h1) hi (by simpa using h2) (Bool.eq_false_iff.mpr h3) (.inr rfl)
  | endInst i =>
    refine onInstance_effect (c := .endInst i) h (fun _ h => ?_)
    split at h <;> cases h
    · exact .answered 0
    · rename_i h1; exact .disabled h1 rfl
  | forceHold i =>
    refine onInstance_effect (c := .forceHold i) h (fun _ h => ?_)
    split at h <;> cases h
    · exact .faulted .state
    · rename_i h1; exact .held h1 rfl
  | forceListen i =>
    refine onInstance_effect (c := .forceListen i) h (fun _ h => ?_)
    split at h <;> cases h
    · exact .faulted .state
    · rename_i h1; exact .listening h1 rfl
  | setActive i =>
    refine onInstance_effect (c := .setActive i) h (fun _ h => ?_)
    split at h
    · cases h; exact .faulted .state
    · rename_i h1
      split at h
      · cases h; exact .faulted .activeTx
      · split at h
        · cases h; exact .answered 0
        · rename_i h3
          split at h <;> cases h
          · exact .answered 2
          · rename_i h4; exact .activated h1 h3 (by simpa using h4) rfl
  | isActive i => exact onInstance_effect (c := .isActive i) h (fun _ h => by cases h; exact .answered _)
  | getDataPin i => exact onInstance_effect (c := .getDataPin i) h (fun _ h => by cases h; exact .answered _)
  | setTimeout i v => exact onInstance_effect (c := .setTimeout i v) h (fun _ h => by cases h; exact .timeoutSet v rfl)
  | getTimeout i => exact onInstance_effect (c := .getTimeout i) h (fun _ h => by cases h; exact .answered _)
  | available i => exact onInstance_effect (c := .available i) h (fun _ h => by cases h; exact .answered _)
  | peek i =>
    refine onInstance_effect (c := .peek i) h (fun _ h => ?_)
    split at h <;> cases h <;> exact .answered _
  | read i =>
    refine onInstance_effect (c := .read i) h (fun _ h => ?_)
    split at h <;> cases h
    · exact .answered _
    · rename_i h1; exact .byteRead h1 rfl
  | clearBuffer i => exact onInstance_effect (c := .clearBuffer i) h (fun _ h => by cases h; exact .cleared rfl)
  | getOverflow i => exact onInstance_effect (c := .getOverflow i) h (fun _ h => by cases h; exact .answered _)
  | write i b =>
    exact onInstance_effect (c := .write i b) h (fun hi h => startTx_effect hi (.inl ⟨b, rfl, rfl⟩) h)
  | sendCommand i t =>
    exact onInstance_effect (c := .sendCommand i t) h (fun hi h => startTx_effect hi (.inr (.inl ⟨t, rfl, rfl⟩)) h)
  | sendResponse i t =>
    exact onInstance_effect (c := .sendResponse i t) h (fun hi h => startTx_effect hi (.inr (.inr ⟨t, rfl, rfl⟩)) h)

/-- A command always answers a next state: a fault of a command is one too (R103). -/
theorem exec_next (c : Instr) (s : State) : ∃ t, exec c s = .next t := by
  have hon : ∀ (i : InstId) (cw : Half) (body : Result), (∃ t, body = .next t) → ∃ t, onInstance i cw s body = .next t := by
    intro i cw body ⟨t, ht⟩
    unfold onInstance
    split
    · exact ⟨t, ht⟩
    · exact ⟨_, rfl⟩
  have htx : ∀ (i : InstId) (segs : List Seg) (cw : Half) (len : Nat), ∃ t, startTx i segs cw len s = .next t := by
    intro i segs cw len
    unfold startTx
    split
    · exact ⟨_, rfl⟩
    · split <;> exact ⟨_, rfl⟩
  cases c <;> refine hon _ _ _ ?_ <;> first | exact htx _ _ _ _ | exact ⟨_, rfl⟩ | (repeat' split) <;> exact ⟨_, rfl⟩

/-- What a HostStep can do (R47, R51): a rejected command faults, a decoded one runs. -/
theorem hostStep_cases {s t : State} (h : hostStep s = .next t) :
    (∃ r, fetch s = .error r ∧ t = raiseFault r.cause r.cw s) ∨ (∃ c, fetch s = .ok c ∧ exec c s = .next t) := by
  unfold hostStep at h
  split at h
  · rename_i c hc; exact .inr ⟨c, hc, h⟩
  · rename_i r hr; cases h; exact .inl ⟨r, hr, rfl⟩

/-- What a step can do (R121): from a block that is not halted, a HostStep where HOST has one, or a Tick. -/
theorem step_cases {s t : State} (h : step s = .next t) :
    s.fault = none ∧
    ((s.txBusy = false ∧ s.cp.toNat < s.stream.length ∧ hostStep (dropInput s) = .next t) ∨
      t = tick (nextInput s).draw (dropInput s)) := by
  unfold step at h
  split at h
  · cases h
  · rename_i hh
    refine ⟨by simpa [halted] using hh, ?_⟩
    split at h
    · rename_i hg
      simp only [Bool.and_eq_true, hostEnabled, hostBusy, Bool.not_eq_true', Nat.blt_eq] at hg
      exact .inl ⟨hg.2.1.2, hg.2.2, h⟩
    · cases h; exact .inr rfl

end Sys2Proof.Machine
end

