-- ==== Sys2Proof/Laws/Decode.lean ====
section
/-! SUPPORT. The command word as a number, and words of the stream against their bytes. -/

namespace Sys2Proof

/-- R50: the command word as a number, `(OP << 11) | (i << 8) | m`. -/
theorem commandWord_toNat (op : BitVec 5) (i : InstId) (m : Byte) : (commandWord op i m).toNat = op.toNat * 2048 + i.val * 256 + m.toNat := by
  have h1 := op.isLt; have h2 := m.isLt; have h3 := i.isLt
  unfold commandWord
  rw [BitVec.toNat_append, BitVec.toNat_append, BitVec.toNat_ofNat, ← Nat.shiftLeft_add_eq_or_of_lt h2,
    ← Nat.shiftLeft_add_eq_or_of_lt (by omega : i.val % 2 ^ 3 < 2 ^ 3)]
  simp only [Nat.shiftLeft_eq]
  omega

/-- A command word is put together again from its bytes (R35). -/
theorem half_of_bytes (h : Half) : half (h.extractLsb' 0 8) (h.extractLsb' 8 8) = h := by
  apply BitVec.eq_of_toNat_eq
  have := h.isLt
  unfold half
  rw [BitVec.toNat_append, ← Nat.shiftLeft_add_eq_or_of_lt (BitVec.isLt _)]
  simp only [BitVec.extractLsb'_toNat, Nat.shiftRight_eq_div_pow, Nat.shiftLeft_eq]
  omega

/-- An operand word is put together again from its bytes (R35). -/
theorem word_of_bytes (w : Word) :
    word (w.extractLsb' 0 8) (w.extractLsb' 8 8) (w.extractLsb' 16 8) (w.extractLsb' 24 8) = w := by
  apply BitVec.eq_of_toNat_eq
  have := w.isLt
  unfold word
  simp only [BitVec.toNat_append, ← Nat.shiftLeft_add_eq_or_of_lt (BitVec.isLt _)]
  simp only [BitVec.extractLsb'_toNat, Nat.shiftRight_eq_div_pow, Nat.shiftLeft_eq]
  omega

/-- The bytes of a command word put together from bytes (R35). -/
theorem bytes_of_half (a b : Byte) : (half a b).extractLsb' 0 8 = a ∧ (half a b).extractLsb' 8 8 = b := by
  have := a.isLt; have := b.isLt
  constructor <;> apply BitVec.eq_of_toNat_eq <;> unfold half <;>
    rw [BitVec.extractLsb'_toNat, BitVec.toNat_append, ← Nat.shiftLeft_add_eq_or_of_lt (BitVec.isLt _)] <;>
    simp only [Nat.shiftRight_eq_div_pow, Nat.shiftLeft_eq] <;> omega

/-- The bytes of an operand word put together from bytes (R35). -/
theorem bytes_of_word (a b c d : Byte) : wordBytes (word a b c d) = [a,b,c,d] := by
  have := a.isLt; have := b.isLt; have := c.isLt; have := d.isLt
  have key : (word a b c d).toNat = d.toNat * 2^24 + c.toNat*2^16 + b.toNat * 2^8 + a.toNat := by
    unfold word
    simp only [BitVec.toNat_append, ← Nat.shiftLeft_add_eq_or_of_lt (BitVec.isLt _)]
    simp only [Nat.shiftLeft_eq]
    omega
  unfold wordBytes
  congr 1
  · apply BitVec.eq_of_toNat_eq; simp only [BitVec.extractLsb'_toNat, key, Nat.shiftRight_eq_div_pow]; omega
  congr 1
  · apply BitVec.eq_of_toNat_eq; simp only [BitVec.extractLsb'_toNat, key, Nat.shiftRight_eq_div_pow]; omega
  congr 1
  · apply BitVec.eq_of_toNat_eq; simp only [BitVec.extractLsb'_toNat, key, Nat.shiftRight_eq_div_pow]; omega
  congr 1
  · apply BitVec.eq_of_toNat_eq; simp only [BitVec.extractLsb'_toNat, key, Nat.shiftRight_eq_div_pow]; omega

end Sys2Proof
end

