-- ==== Sys2Proof/Laws/PerInstr.lean ====
section
/-! SUPPORT. The family EncodedLength, one lemma per command: a command takes as many bytes of the stream as its
format says (30_encoding.md R48), two at least; `cp` moves by that many (R12, R53). -/

namespace Sys2Proof.Laws.EncodedLength

/-- The statement of the family. -/
def Statement (c : Instr) : Prop := (encode c).length = c.length ∧ 2 ≤ c.length

theorem beginInst (i : InstId) : Statement (.beginInst i) := ⟨rfl, by simp [Instr.length, Instr.format]⟩

theorem beginPin (i : InstId) (p : PinId) : Statement (.beginPin i p) := ⟨rfl, by simp [Instr.length, Instr.format]⟩

theorem endInst (i : InstId) : Statement (.endInst i) := ⟨rfl, by simp [Instr.length, Instr.format]⟩

theorem forceHold (i : InstId) : Statement (.forceHold i) := ⟨rfl, by simp [Instr.length, Instr.format]⟩

theorem forceListen (i : InstId) : Statement (.forceListen i) := ⟨rfl, by simp [Instr.length, Instr.format]⟩

theorem setActive (i : InstId) : Statement (.setActive i) := ⟨rfl, by simp [Instr.length, Instr.format]⟩

theorem isActive (i : InstId) : Statement (.isActive i) := ⟨rfl, by simp [Instr.length, Instr.format]⟩

theorem getDataPin (i : InstId) : Statement (.getDataPin i) := ⟨rfl, by simp [Instr.length, Instr.format]⟩

theorem setTimeout (i : InstId) (v : Word) : Statement (.setTimeout i v) := ⟨rfl, by simp [Instr.length, Instr.format]⟩

theorem getTimeout (i : InstId) : Statement (.getTimeout i) := ⟨rfl, by simp [Instr.length, Instr.format]⟩

theorem available (i : InstId) : Statement (.available i) := ⟨rfl, by simp [Instr.length, Instr.format]⟩

theorem peek (i : InstId) : Statement (.peek i) := ⟨rfl, by simp [Instr.length, Instr.format]⟩

theorem read (i : InstId) : Statement (.read i) := ⟨rfl, by simp [Instr.length, Instr.format]⟩

theorem clearBuffer (i : InstId) : Statement (.clearBuffer i) := ⟨rfl, by simp [Instr.length, Instr.format]⟩

theorem getOverflow (i : InstId) : Statement (.getOverflow i) := ⟨rfl, by simp [Instr.length, Instr.format]⟩

theorem write (i : InstId) (c : Byte) : Statement (.write i c) := ⟨rfl, by simp [Instr.length, Instr.format]⟩

theorem sendCommand (i : InstId) (t : List Byte) : Statement (.sendCommand i t) :=
  ⟨by simp only [encode, halfBytes, Instr.operandBytes, Instr.length, Instr.format, Instr.text, List.length_append,
    List.length_cons, List.length_nil], Nat.le_add_right 2 t.length⟩

theorem sendResponse (i : InstId) (t : List Byte) : Statement (.sendResponse i t) :=
  ⟨by simp only [encode, halfBytes, Instr.operandBytes, Instr.length, Instr.format, Instr.text, List.length_append,
    List.length_cons, List.length_nil], Nat.le_add_right 2 t.length⟩

end Sys2Proof.Laws.EncodedLength
end

