-- ==== Sys2Proof/Laws/Transmitter.lean ====
section
/-! SUPPORT. The segment lists of the transmit commands: what R93 drops from them, and how long they last. -/

namespace Sys2Proof.Machine

/-- No segment of a character is empty (R91). -/
theorem driveable_charSegs (w : Nat) (c : Byte) (h : 0 < w) : driveable (charSegs w c) = charSegs w c := by
  simp [driveable, charSegs, h]

/-- Nor any segment of a text (R92). -/
theorem driveable_textSegs (w : Nat) (text : List Byte) (h : 0 < w) :
    driveable (textSegs w text) = textSegs w text := by
  unfold textSegs driveable
  rw [List.filter_flatMap]
  congr 1
  funext c
  exact driveable_charSegs w c h

/-- A character lasts ten bit periods (R91). -/
theorem totalTicks_charSegs (w : Nat) (c : Byte) : totalTicks (charSegs w c) = 10 * w := by
  simp [totalTicks, charSegs]
  omega

theorem totalTicks_append (a b : List Seg) : totalTicks (a ++ b) = totalTicks a + totalTicks b := by
  induction a with
  | nil => simp [totalTicks]
  | cons g gs ih => simp only [List.cons_append, totalTicks, ih]; omega

/-- A text lasts ten bit periods a character (R92). -/
theorem totalTicks_textSegs (w : Nat) (text : List Byte) : totalTicks (textSegs w text) = 10 * w * text.length := by
  induction text with
  | nil => simp [textSegs, totalTicks]
  | cons c cs ih =>
    have : textSegs w (c :: cs) = charSegs w c ++ textSegs w cs := by simp [textSegs]
    rw [this, totalTicks_append, totalTicks_charSegs, ih, List.length_cons, Nat.mul_succ]
    omega

/-- Dropping the empty segments changes neither how long a list lasts nor what it drives when (R93, R97). -/
theorem totalTicks_driveable (segs : List Seg) : totalTicks (driveable segs) = totalTicks segs := by
  induction segs with
  | nil => rfl
  | cons g gs ih =>
    unfold driveable at *
    by_cases h : 0 < g.ticks
    · simp [h, totalTicks, ih]
    · have : g.ticks = 0 := by omega
      simp [this, totalTicks, ih]

theorem levelAt_driveable (segs : List Seg) (t : Nat) : levelAt (driveable segs) t = levelAt segs t := by
  induction segs generalizing t with
  | nil => rfl
  | cons g gs ih =>
    unfold driveable at *
    by_cases h : 0 < g.ticks
    · simp [h, levelAt, ih]
    · have : g.ticks = 0 := by omega
      simp [this, levelAt, ih]

/-- Two runs of ticks, one after the other. -/
theorem runTicks_append (a b : List Draw) (s : State) : runTicks (a ++ b) s = runTicks b (runTicks a s) := by
  induction a generalizing s with
  | nil => rfl
  | cons d ds ih => exact ih (tick d s)

end Sys2Proof.Machine
end

