-- ==== Sys2Proof/Tests/Slice0.lean ====
section
/-! SUPPORT. Tests and witnesses. Expected results are the spec's: the examples at the end of each command's rule,
the tables of 30_encoding.md, 95_test_vectors.md. A witness shows a state and operands that meet the hypotheses of
an obligation, one for each of its clauses. -/

namespace Sys2Proof.Tests

open Sys2Proof Sys2Proof.Machine

/-! ### A small machine -/

/-- Two instances, four pins, pins 2 and 3 on one net, a bit period of two ticks. -/
def bench : Params where
  nInst := 2
  nPins := 4
  pinInit := #v[1, 9, 0, 0, 0, 0, 0, 0]
  bitTicks := 2
  breakTicks := 20
  wakeMarkTicks := 1
  respMarkTicks := 0
  wiring := [(3, 2)]
  pullLevel := .mark
  timeoutInit := 77

/-- The machine after reset. -/
def off (prog : List Byte) : State := State.resetWith bench prog

/-- Instance 0 in line state `a` on pin 2, instance 1 in line state `b` on pin 3, instance 1 active. -/
def board (a b : LineState) : State :=
  { off [] with insts := ((off []).insts.set 0 ⟨a, 2, 7⟩).set 1 ⟨b, 3, 8⟩, reg := some 1 }

/-- Instance 1 listening, in the middle of a character. -/
def receiving (a : LineState) : State := { board a .listening with rxBusy := true, rxN := 3, rxPat := 5, now := 7 }

/-- Instance 0 sending one segment with `left` ticks to go, and then `gs`. -/
def sending (left : Word) (gs : List Seg) : State :=
  { board .transmitting .listening with
    txBusy := true, txInst := 0, txSegs := ⟨.space, 2⟩ :: gs, txLeft := left, txLen := 2, stream := [0x41, 0x80] }

/-- One byte in the buffer, in the slot before the ring wraps. -/
def holdingByte : State := { board .enabled .listening with slots := [(74, 0x61)], tail := 74, count := 1 }

/-- A full buffer. -/
def full : State :=
  { board .enabled .listening with slots := (List.range 75).map (fun k => (k, 0x30)), count := 75 }

/-- A run's stream with HOST given the turn. -/
def host (prog : List Byte) : State := { off prog with inputs := [{ hostTurn := true }] }

/-- What a result says of the next state. -/
def look {α : Type} (r : Result) (f : State → α) : Option α :=
  match r with
  | .next t => some (f t)
  | .fault _ => none
  | .refused _ => none

/-- ENV drives net 2 to a level. -/
def driven (v : Level) : Draw := { ext := [(2, .drive v)] }

/-! ### WellFormed refuses ill-formed terms -/

theorem test_text_of_256_bytes_refused : ¬ (Instr.sendCommand 0 (List.replicate 256 0x41)).encodable := by decide +kernel
theorem test_text_of_255_bytes_accepted : (Instr.sendResponse 0 (List.replicate 255 0x41)).encodable := by decide +kernel
theorem test_instance_2_of_2_refused : ¬ (Instr.read 2).admitted 2 := by decide
theorem test_ill_formed_both_ways : ¬ (Instr.read 2).wellFormed 2 ∧
    ¬ (Instr.sendCommand 0 (List.replicate 256 0x41)).wellFormed 2 ∧ (Instr.read 1).wellFormed 2 := by decide +kernel

/-! ### Decoding: one word per row, its bits written out from R50's patterns (low byte first, R35) -/

theorem test_decode_BEGIN : decode [0b00000000, 0b00001101] = .ok (.beginInst 5) := by decide
theorem test_decode_BEGIN_PIN : decode [0b00001010, 0b00010011] = .ok (.beginPin 3 10) := by decide
theorem test_decode_END : decode [0b00000000, 0b00011001] = .ok (.endInst 1) := by decide
theorem test_decode_FORCE_HOLD : decode [0b00000000, 0b00100010] = .ok (.forceHold 2) := by decide
theorem test_decode_FORCE_LISTEN : decode [0b00000000, 0b00101100] = .ok (.forceListen 4) := by decide
theorem test_decode_SET_ACTIVE : decode [0b00000000, 0b00110110] = .ok (.setActive 6) := by decide
theorem test_decode_IS_ACTIVE : decode [0b00000000, 0b00111111] = .ok (.isActive 7) := by decide
theorem test_decode_GET_DATA_PIN : decode [0b00000000, 0b01000001] = .ok (.getDataPin 1) := by decide
theorem test_decode_SET_TIMEOUT :
    decode [0b00000000, 0b01001010, 0xF1, 0xD8, 0xFF, 0x7F] = .ok (.setTimeout 2 0x7FFFD8F1) := by decide
theorem test_decode_GET_TIMEOUT : decode [0b00000000, 0b01010011] = .ok (.getTimeout 3) := by decide
theorem test_decode_AVAILABLE : decode [0b00000000, 0b01011100] = .ok (.available 4) := by decide
theorem test_decode_PEEK : decode [0b00000000, 0b01100101] = .ok (.peek 5) := by decide
theorem test_decode_READ : decode [0b00000000, 0b01101110] = .ok (.read 6) := by decide
theorem test_decode_CLEAR_BUFFER : decode [0b00000000, 0b01110111] = .ok (.clearBuffer 7) := by decide
theorem test_decode_GET_OVERFLOW : decode [0b00000000, 0b01111001] = .ok (.getOverflow 1) := by decide
theorem test_decode_WRITE : decode [0b01000001, 0b10000001] = .ok (.write 1 0x41) := by decide
theorem test_decode_SEND_COMMAND :
    decode [0b00000010, 0b10001001, 0x61, 0x4D, 0x21] = .ok (.sendCommand 1 [0x61, 0x4D]) := by decide
theorem test_decode_SEND_RESPONSE : decode [0b00000001, 0b10010010, 0x30] = .ok (.sendResponse 2 [0x30]) := by decide

/-- R104: with several causes the first is reported; 95_test_vectors.md, D-vectors. -/
theorem test_decode_rejects :
    decode [0x58] = .error ⟨.trunc, 0⟩ ∧ decode [0x00, 0x98] = .error ⟨.opcode, 0x9800⟩ ∧
    decode [0xFF, 0x07] = .error ⟨.opcode, 0x07FF⟩ ∧ decode [0x01, 0x48] = .error ⟨.trunc, 0x4801⟩ ∧
    decode [0x01, 0x48, 0, 0, 0, 0] = .error ⟨.field, 0x4801⟩ ∧ decode [0x01, 0x5F] = .error ⟨.field, 0x5F01⟩ ∧
    decode [0x05, 0x88, 0x61, 0x4D] = .error ⟨.trunc, 0x8805⟩ := by decide

theorem test_encode_SEND_COMMAND : encode (.sendCommand 0 [0x61, 0x4D, 0x21]) = [0x03, 0x88, 0x61, 0x4D, 0x21] := by
  decide

theorem test_decodeTableWord : decodeTableWord 16 0x100A = some (.beginPin 0 10) ∧
    decodeTableWord 48 0xFFFFD8F14800 = some (.setTimeout 0 0xFFFFD8F1) ∧
    decodeTableWord 16 0x8802 = some (.sendCommand 0 [0, 0]) := by decide +kernel

/-- The placed word is fetched and run, from reset. -/
theorem test_withFetchWord :
    look (step (State.reset.withFetchWord 16 0x100A)) (fun t => (t.st 0, t.pin 0, t.cp)) = some (.enabled, 10, 2) := by
  decide +kernel

/-! ### The assembler (R54, R55) -/

theorem test_assemble_examples :
    assembleLine "READ 0" = some [.read 0] ∧ assembleLine "BEGIN_PIN 0, 10" = some [.beginPin 0 10] ∧
    assembleLine "WRITE 1, 0x41" = some [.write 1 0x41] ∧ assembleLine "WRITE 1, 'A'" = some [.write 1 0x41] ∧
    assembleLine "SET_TIMEOUT 0, -9999" = some [.setTimeout 0 0xFFFFD8F1] ∧
    assembleLine "SEND_COMMAND 0, \"aM!\"" = some [.sendCommand 0 [0x61, 0x4D, 0x21]] ∧
    assembleLine "SEND_RESPONSE 1, \"\\x7F,;\\\"\\\\\"" =
      some [.sendResponse 1 [0x7F, 0x2C, 0x3B, 0x22, 0x5C]] := by decide +kernel

theorem test_assemble_aliases_and_pseudos :
    assembleLine "begin 0, 10 ; the scenario of the source" = some [.beginPin 0 10] ∧
    assembleLine "begin 1" = some [.beginInst 1] ∧ assembleLine "setTimeoutValue 1, 0xFFFFFFFF" =
      some [.setTimeout 1 0xFFFFFFFF] ∧
    assembleLine "INIT 0, 10" = some [.beginPin 0 10, .setActive 0, .forceListen 0] ∧
    assembleLine "LISTEN 1" = some [.setActive 1, .forceListen 1] ∧ assembleLine "HOLD 1" = some [.forceHold 1] ∧
    assembleLine "; nothing" = some [] := by decide +kernel

theorem test_assemble_refuses :
    assembleLine "READ 8" = none ∧ assembleLine "WRITE 1, 256" = none ∧ assembleLine "READ 0, 1" = none ∧
    assembleLine "NOP 0" = none ∧ assembleLine "WRITE 1," = none := by decide +kernel

/-- R54: every other character is its ASCII byte (log 19 for the lone backslash); no leading plus (log 19). -/
theorem test_assemble_lone_backslash :
    assembleLine "SEND_COMMAND 0, \"\\n\\x4g\\x41\"" =
      some [.sendCommand 0 [0x5C, 0x6E, 0x5C, 0x78, 0x34, 0x67, 0x41]] ∧
    assembleLine "SEND_COMMAND 0, \"a\\\"" = none ∧ assembleLine "SET_TIMEOUT 0, +5" = none := by decide +kernel

theorem test_assemble_stream : assemble ["FORCE_LISTEN 0", "", "SET_TIMEOUT 0, -9999"] =
    some [0x00, 0x28, 0x00, 0x48, 0xF1, 0xD8, 0xFF, 0xFF] := by decide +kernel

/-! ### One command (the examples of the rules) -/

theorem test_BEGIN : look (exec (.beginInst 0) (off [])) (fun t => (t.st 0, t.pin 0, t.res, t.cp)) =
    some (.enabled, 1, 0, 2) := by decide
theorem test_BEGIN_bad_pin : look (exec (.beginInst 1) (off [])) (fun t => (t.st 1, faultCode t.fault, t.faultCw)) =
    some (.disabled, 7, 0x0900) := by decide
theorem test_BEGIN_PIN : look (exec (.beginPin 0 3) (off [])) (fun t => (t.pin 0, t.st 0, t.res)) =
    some (3, .enabled, 0) := by decide
theorem test_BEGIN_PIN_in_use : look (exec (.beginPin 0 3) (board .disabled .enabled))
    (fun t => (t.pin 0, faultCode t.fault, t.cp)) = some (2, 8, 0) := by decide
theorem test_END : look (exec (.endInst 1) (receiving .enabled)) (fun t => (t.st 1, t.reg, t.rxBusy, t.res)) =
    some (.disabled, none, false, 0) := by decide
theorem test_END_of_another : look (exec (.endInst 0) (receiving .holding)) (fun t => (t.st 0, t.reg, t.rxBusy)) =
    some (.disabled, some 1, true) := by decide
theorem test_FORCE_HOLD : look (exec (.forceHold 1) (receiving .enabled)) (fun t => (t.st 1, t.reg, t.rxBusy, t.rxN)) =
    some (.holding, some 1, false, 0) := by decide
theorem test_FORCE_HOLD_disabled : look (exec (.forceHold 0) (off [])) (fun t => (t.st 0, faultCode t.fault)) =
    some (.disabled, 5) := by decide
theorem test_FORCE_LISTEN : look (exec (.forceListen 1) (board .enabled .holding)) (fun t => (t.st 1, armed t 1)) =
    some (.listening, true) := by decide
theorem test_FORCE_LISTEN_keeps_assembly : look (exec (.forceListen 1) (receiving .enabled))
    (fun t => (t.rxBusy, t.rxN, t.rxPat)) = some (true, 3, 5) := by decide
theorem test_SET_ACTIVE : look (exec (.setActive 0) (board .enabled .listening)) (fun t => (t.reg, t.res)) =
    some (some 0, 1) := by decide
theorem test_SET_ACTIVE_refused : look (exec (.setActive 0) (receiving .enabled)) (fun t => (t.reg, t.res)) =
    some (some 1, 2) := by decide
theorem test_IS_ACTIVE : look (exec (.isActive 0) (board .enabled .enabled)) State.res = some 0 ∧
    look (exec (.isActive 1) (board .enabled .enabled)) State.res = some 1 := by decide
theorem test_GET_DATA_PIN : look (exec (.getDataPin 1) (off [])) State.res = some 9 := by decide
theorem test_SET_TIMEOUT : look (exec (.setTimeout 0 0xFFFFD8F1) (off [])) (fun t => (t.tmo 0, t.tmo 1, t.cp)) =
    some (0xFFFFD8F1, 77, 6) := by decide
theorem test_GET_TIMEOUT : look (exec (.getTimeout 0) (board .enabled .enabled)) State.res = some 7 := by decide
theorem test_AVAILABLE : look (exec (.available 0) full) State.res = some 75 := by decide
theorem test_PEEK : look (exec (.peek 0) holdingByte) (fun t => (t.res, t.count, t.tail)) = some (0x61, 1, 74) := by
  decide
theorem test_PEEK_none : look (exec (.peek 0) (off [])) State.res = some 0xFFFFFFFF := by decide
theorem test_READ : look (exec (.read 0) holdingByte) (fun t => (t.res, t.count, t.tail)) = some (0x61, 0, 0) := by
  decide
theorem test_READ_none : look (exec (.read 0) (off [])) (fun t => (t.res, t.tail)) = some (0xFFFFFFFF, 0) := by decide
theorem test_CLEAR_BUFFER : look (exec (.clearBuffer 0) { full with ovf := true, head := 5, tail := 5 })
    (fun t => (t.count, t.ovf, t.head, t.tail)) = some (0, false, 0, 0) := by decide
theorem test_GET_OVERFLOW : look (exec (.getOverflow 1) { full with ovf := true }) State.res = some 1 := by decide
theorem test_WRITE : look (exec (.write 0 0x41) (board .enabled .listening))
    (fun t => (t.st 0, t.txSegs.map (fun g => levelBit g.level), t.txLeft, t.reslog)) =
    some (.transmitting, [false, true, false, false, false, false, false, true, false, true], 2, []) := by decide
theorem test_WRITE_disabled : look (exec (.write 0 0x41) (off [])) (fun t => (faultCode t.fault, t.faultCw, t.txBusy)) =
    some (5, 0x8041, false) := by decide
theorem test_SEND_COMMAND : look (exec (.sendCommand 0 []) (board .enabled .listening))
    (fun t => (t.txSegs, t.txLeft, t.txLen)) = some ([⟨.space, 20⟩, ⟨.mark, 1⟩], 20, 2) := by decide
theorem test_SEND_COMMAND_disabled : look (exec (.sendCommand 0 [0x61, 0x4D, 0x21]) (off []))
    (fun t => (faultCode t.fault, t.faultCw, t.faultCp)) = some (5, 0x8803, 0) := by decide
theorem test_SEND_RESPONSE : look (exec (.sendResponse 1 [0x30]) (receiving .enabled))
    (fun t => (t.st 1, t.rxBusy, t.txSegs.length, t.txLen)) = some (.transmitting, false, 10, 3) := by decide
theorem test_SEND_RESPONSE_at_once : look (exec (.sendResponse 0 []) (board .holding .listening))
    (fun t => (t.st 0, t.txBusy, t.reslog, t.cp)) = some (.listening, false, [0], 2) := by decide

/-! ### One tick -/

/-- R70's example, with R122's clock. -/
theorem test_tick_start_edge :
    let t := tick (driven .space) { board .enabled .listening with now := 100 }
    (t.rxBusy, t.rxT0, t.rxN, t.now, prevLevel t 3) = (true, 100, 0, 101, .space) := by decide +kernel

/-- R73's example: the ninth sample completes the character. -/
theorem test_tick_completes_a :
    let t := tick {} { board .enabled .listening with rxBusy := true, rxN := 8, rxPat := 0b011100001, now := 19 }
    (t.rxBusy, t.count, bufferContents t) = (false, 1, [0x61]) := by decide +kernel

/-- R110: in one tick the ninth sample discards the old character (stop at SPACE), and the falling edge begins a new
one. -/
theorem test_tick_stop_and_start :
    let t := tick (driven .space) { board .enabled .listening with rxBusy := true, rxN := 8, rxPat := 0x61, now := 19 }
    (t.rxBusy, t.rxT0, t.rxN, t.rxPat, t.count) = (true, 19, 0, 0, 0) := by decide +kernel

/-- R79: a full buffer drops the byte and sets the flag. -/
theorem test_tick_overflow :
    let t := tick {} { full with rxBusy := true, rxN := 8, rxPat := 0b011100001, now := 19 }
    (t.rxBusy, t.count, t.ovf, t.head) = (false, 75, true, 0) := by decide +kernel

/-- R98: the last tick of a frame. -/
theorem test_tick_end_of_frame :
    let t := tick {} (sending 1 [])
    (t.st 0, t.txBusy, t.reslog, t.cp) = (.listening, false, [0], 2) := by decide +kernel

/-- R41: two drivers that differ give ENV's choice. -/
theorem test_contention :
    pinLevel { ext := [(2, .drive .space)], contention := [(2, .space)] } (board .holding .listening) 3 = .space ∧
    pinLevel { ext := [(2, .drive .space)], contention := [(2, .mark)] } (board .holding .listening) 3 = .mark := by
  decide

/-! ### Witnesses of the obligations -/

theorem witness_DecodeInvertsEncode : (Instr.sendCommand 0 (List.replicate 255 0x41)).encodable := by decide +kernel
theorem witness_DecodedBytesAreTheEncoding : decode [0x01, 0x91, 0x30, 0x99] = .ok (.sendResponse 1 [0x30]) := by decide

theorem witness_IllegalEncodingsFault :
    (off [0x58]).stream.drop (off [0x58]).cp.toNat = [0x58] ∧
    (off [0x00, 0x98]).stream.drop 0 = 0x00 :: 0x98 :: [] ∧ (0x13 : Nat) ≤ (0x98 * 256 + 0x00) / 2 ^ 11 ∧
    ((0x48 * 256 + 0x00) / 2 ^ 11 = 0x09 ∧ ([0, 0, 0] : List Byte).length < 4) ∧
    ((0x8F * 256 + 0x01) / 2 ^ 11 = 0x11 ∧ ([] : List Byte).length < 1) ∧
    ((0x48 * 256 + 0x01) / 2 ^ 11 = 0x09 ∧ ¬ ([0, 0, 0, 0] : List Byte).length < 4 ∧ 0x01 ≠ 0) ∧
    ((0x5A * 256 + 0x00) / 2 ^ 11 = 0x0B ∧ (off []).cfg.nInst ≤ (0x5A : Byte).toNat % 8) := by decide

theorem witness_StepRunsTheCommandAtCp :
    let s := host [0x0A, 0x10, 0x00, 0x30]
    s.fault = none ∧ s.txBusy = false ∧ s.cp.toNat < s.stream.length ∧ (nextInput s).hostTurn = true ∧
    (Instr.beginPin 0 10).encodable ∧ s.stream.drop s.cp.toNat = encode (.beginPin 0 10) ++ [0x00, 0x30] := by decide

theorem witness_StepTicksOtherwise :
    ((off []).fault = none ∧ (nextInput { host [0x00, 0x08] with inputs := [{ hostTurn := false }] }).hostTurn = false) ∧
    ((sending 2 []).fault = none ∧ (sending 2 []).txBusy = true) ∧
    ((host []).fault = none ∧ (host []).stream.length ≤ (host []).cp.toNat) := by decide

theorem witness_FaultsArePreciseAndHalt : { off [] with fault := some .pin }.fault ≠ none := by decide
theorem witness_OnlyHaltedBlocksStop : safe (off []) = true ∧ safe { off [] with fault := some .pin } = false := by decide
theorem witness_RunEndLeavesOnlyTicks : runEnded (off []) = true ∧
    { off [] with fault := some .trunc }.fault ≠ none := by decide
theorem witness_AbsentInstanceFaults : (off []).cfg.nInst ≤ (Instr.read 2).inst.val := by decide

theorem witness_CompletionWritesResultAndPointer :
    (∃ t, exec (.peek 0) (off []) = .next t ∧ (off []).fault = none ∧ t.fault = none) ∧
    (∃ t, exec (.write 0 0x41) (board .enabled .enabled) = .next t ∧ (board .enabled .enabled).fault = none ∧
      t.fault = none) := ⟨⟨_, rfl, rfl, rfl⟩, ⟨_, rfl, rfl, rfl⟩⟩

theorem witness_BeginEnablesTheInstance :
    (0 : InstId).val < (board .enabled .enabled).cfg.nInst ∧ (board .enabled .enabled).st 0 ≠ .disabled ∧
    (off []).st 1 = .disabled ∧ (off []).cfg.nPins ≤ ((off []).pin 1).toNat ∧
    (let s := { board .disabled .enabled with insts := (board .disabled .enabled).insts.set 0 ⟨.disabled, 3, 7⟩ }
     s.st 0 = .disabled ∧ (s.pin 0).toNat < s.cfg.nPins ∧
      ∃ j : InstId, j.val < s.cfg.nInst ∧ j ≠ 0 ∧ s.st j ≠ .disabled ∧ s.pin j = s.pin 0) ∧
    ((board .disabled .enabled).st 0 = .disabled ∧ ((board .disabled .enabled).pin 0).toNat < 4 ∧
      ∀ j : InstId, j.val < 2 → j ≠ 0 → (board .disabled .enabled).st j ≠ .disabled →
        (board .disabled .enabled).pin j ≠ (board .disabled .enabled).pin 0) := by decide

theorem witness_BeginPinSetsPinAndEnables :
    (board .enabled .enabled).st 0 ≠ .disabled ∧ (off []).st 0 = .disabled ∧
    (off []).cfg.nPins ≤ (4 : PinId).toNat ∧ (3 : PinId).toNat < (off []).cfg.nPins ∧
    (∃ j : InstId, j.val < (off []).cfg.nInst ∧ j ≠ 0 ∧ (board .disabled .enabled).st j ≠ .disabled ∧
      (board .disabled .enabled).pin j = 3) ∧
    (∀ j : InstId, j.val < (off []).cfg.nInst → j ≠ 0 → (board .disabled .enabled).st j ≠ .disabled →
      (board .disabled .enabled).pin j ≠ 2) := by decide

theorem witness_EndDisablesAndReleasesTheRegistry :
    (1 : InstId).val < (off []).cfg.nInst ∧ (off []).st 1 = .disabled ∧
    ((board .enabled .enabled).st 0 ≠ .disabled ∧ (board .enabled .enabled).reg ≠ some 0) ∧
    ((board .enabled .enabled).st 1 ≠ .disabled ∧ (board .enabled .enabled).reg = some 1 ∧
      (board .enabled .enabled).rxBusy = false) ∧
    ((receiving .enabled).st 1 ≠ .disabled ∧ (receiving .enabled).reg = some 1 ∧
      (receiving .enabled).rxBusy = true) := by decide

theorem witness_ForceHoldHoldsAndDropsTheAssembly :
    (1 : InstId).val < (off []).cfg.nInst ∧ (off []).st 1 = .disabled ∧
    ((board .enabled .enabled).st 1 ≠ .disabled ∧ ¬((board .enabled .enabled).st 1 = .listening ∧
      (board .enabled .enabled).reg = some 1 ∧ (board .enabled .enabled).rxBusy = true)) ∧
    ((receiving .enabled).st 1 = .listening ∧ (receiving .enabled).reg = some 1 ∧
      (receiving .enabled).rxBusy = true) := by decide

theorem witness_ForceListenListens :
    (0 : InstId).val < (off []).cfg.nInst ∧ (off []).st 0 = .disabled ∧ (board .holding .enabled).st 0 ≠ .disabled := by
  decide

theorem witness_SetActiveInstallsOrRefuses :
    (1 : InstId).val < (off []).cfg.nInst ∧ (off []).st 1 = .disabled ∧
    ((sending 2 []).st 1 ≠ .disabled ∧ (sending 2 []).txBusy = true ∧ (sending 2 []).txInst ≠ 1) ∧
    ((board .enabled .enabled).st 1 ≠ .disabled ∧
      ¬((board .enabled .enabled).txBusy = true ∧ (board .enabled .enabled).txInst ≠ 1) ∧
      (board .enabled .enabled).reg = some 1) ∧
    ((receiving .enabled).st 0 ≠ .disabled ∧
      ¬((receiving .enabled).txBusy = true ∧ (receiving .enabled).txInst ≠ 0) ∧
      (receiving .enabled).reg ≠ some 0 ∧ (receiving .enabled).rxBusy = true) ∧
    ((board .enabled .enabled).st 0 ≠ .disabled ∧
      ¬((board .enabled .enabled).txBusy = true ∧ (board .enabled .enabled).txInst ≠ 0) ∧
      (board .enabled .enabled).reg ≠ some 0 ∧ (board .enabled .enabled).rxBusy = false) := by decide

theorem witness_IsActiveQueriesTheRegistry : (1 : InstId).val < (board .enabled .enabled).cfg.nInst ∧
    (board .enabled .enabled).reg = some 1 ∧ (board .enabled .enabled).reg ≠ some 0 := by decide
theorem witness_GetDataPinReturnsThePin : (1 : InstId).val < (off []).cfg.nInst := by decide
theorem witness_TimeoutIsStoredAndReadBack : (1 : InstId).val < (off []).cfg.nInst := by decide
theorem witness_PushWritesHeadOrSetsOverflow : full.count.val = 75 ∧ holdingByte.count.val < 75 := by decide
theorem witness_AvailableAndOverflowAreRead : (1 : InstId).val < full.cfg.nInst ∧ full.ovf = false ∧
    { full with ovf := true }.ovf = true := by decide
theorem witness_PeekReturnsTheOldestByte : (1 : InstId).val < full.cfg.nInst ∧ (off []).count.val = 0 ∧
    holdingByte.count.val ≠ 0 := by decide
theorem witness_ReadRemovesTheOldestByte : (1 : InstId).val < full.cfg.nInst ∧ (off []).count.val = 0 ∧
    holdingByte.count.val ≠ 0 := by decide
theorem witness_ClearBufferEmptiesIt : (1 : InstId).val < full.cfg.nInst := by decide

theorem witness_BufferIsABoundedQueue :
    BufferInv holdingByte ∧ (1 : InstId).val < holdingByte.cfg.nInst ∧ bufferContents holdingByte = 0x61 :: [] ∧
    BufferInv full ∧ BufferInv (off []) := by decide +kernel

theorem witness_OverflowKeepsTheFirstBytes : BufferInv (off []) ∧ (off []).count.val = 0 ∧ (off []).ovf = false ∧
    75 < (List.replicate 76 (0x41 : Byte)).length := by decide +kernel

theorem witness_SamplerTakesTheDueSample :
    ((receiving .enabled).reg = some 1 ∧ (receiving .enabled).rxBusy = true ∧
      ((receiving .enabled).now - (receiving .enabled).rxT0).toNat ≠ (3 + 1) * 2 + 2 / 2) ∧
    (let s := { receiving .enabled with now := 9 }
     (s.now - s.rxT0).toNat = (s.rxN.val + 1) * s.cfg.bitTicks + s.cfg.bitTicks / 2 ∧ s.rxN.val < 8) ∧
    (let s := { receiving .enabled with now := 5, rxT0 := 0xFFFFFFF2, rxN := 8, rxPat := 0b011100001 }
     (s.now - s.rxT0).toNat = (s.rxN.val + 1) * s.cfg.bitTicks + s.cfg.bitTicks / 2 ∧ s.rxN.val = 8 ∧
     (0b111100001 : BitVec 9).getLsbD 8 = true ∧
     (0b111100001 : BitVec 9).getLsbD 7 = parity7 ((0b111100001 : BitVec 9).extractLsb' 0 7) ∧
     ¬((0b011100001 : BitVec 9).getLsbD 8 = true)) := by decide

theorem witness_InterruptStartsAssemblyOnFall :
    (armed (board .enabled .listening) 1 = true ∧ (board .enabled .listening).rxBusy = false ∧
      prevLevel (board .enabled .listening) 3 = .mark ∧ pinLevel (driven .space) (board .enabled .listening) 3 = .space) ∧
    (∀ a, armed (receiving .enabled) a = true → (receiving .enabled).rxBusy = true ∨
      prevLevel (receiving .enabled) ((receiving .enabled).pin a) = .space ∨
      pinLevel {} (receiving .enabled) ((receiving .enabled).pin a) = .mark) := by decide

theorem witness_UnarmedReceiverIgnoresTheLine :
    (∀ a, armed (board .enabled .holding) a = false) ∧ (board .enabled .holding).rxBusy = false := by decide

theorem witness_SampledWaveformIsTheCharacter :
    (∀ k, k ≤ 8 → (k + 1) * 9 ≤ sampleOffset 9 k ∧ sampleOffset 9 k < (k + 2) * 9) ∧
    (∀ k, k ≤ 8 → levelAt (charSegs 9 0x61) (sampleOffset 9 k) =
      some ((levelAt (charSegs 9 0x61) (sampleOffset 9 k)).getD .mark)) := by decide

/-- The draws of one character time: the start edge, then nothing. -/
def glitch : List Draw := driven .space :: List.replicate 19 {}

theorem witness_NineSamplesDecideTheCharacter :
    (board .enabled .listening).cfg.ok ∧ BufferInv (board .enabled .listening) ∧
    armed (board .enabled .listening) 1 = true ∧ (board .enabled .listening).rxBusy = false ∧
    glitch.length = sampleOffset (board .enabled .listening).cfg.bitTicks 8 + 1 ∧
    prevLevel (board .enabled .listening) ((board .enabled .listening).pin 1) = .mark ∧
    lineAt glitch (board .enabled .listening) ((board .enabled .listening).pin 1) 0 = .space := by decide +kernel

theorem witness_GlitchIsReceivedBreakIsDiscarded :
    (∀ k, k ≤ 8 → lineAt glitch (board .enabled .listening) 3 (sampleOffset 2 k) = .mark) ∧
    (board .enabled .listening).count.val < 75 ∧
    lineAt (List.replicate 20 (driven .space)) (board .enabled .listening) 3 0 = .space ∧
    lineAt (List.replicate 20 (driven .space)) (board .enabled .listening) 3 (sampleOffset 2 8) = .space := by
  decide +kernel

theorem witness_WriteStartsOneFrame : (0 : InstId).val < (off []).cfg.nInst ∧ 0 < (off []).cfg.bitTicks ∧
    (off []).st 0 = .disabled ∧ (board .holding .enabled).st 0 ≠ .disabled := by decide
theorem witness_SendCommandStartsTheWakeSequence : (0 : InstId).val < (off []).cfg.nInst ∧ (off []).cfg.ok ∧
    (off []).st 0 = .disabled ∧ (board .holding .enabled).st 0 ≠ .disabled := by decide
theorem witness_SendResponseMarksThenSends : (0 : InstId).val < (off []).cfg.nInst ∧ (off []).cfg.ok ∧
    (off []).st 0 = .disabled ∧ (board .holding .enabled).st 0 ≠ .disabled ∧
    ([] ++ ([0x41] : List Byte).flatMap (charSegs 2) = ⟨.space, 2⟩ :: (charSegs 2 0x41).tail) ∧
    (off []).cfg.respMarkTicks = 0 := by decide

theorem witness_TickAdvancesTheTransmitter :
    (off []).txBusy = false ∧ ((sending 2 []).txBusy = true ∧ (sending 2 []).txLeft ≠ 1) ∧
    ((sending 1 [⟨.mark, 2⟩]).txBusy = true ∧ (sending 1 [⟨.mark, 2⟩]).txLeft = 1 ∧
      (sending 1 [⟨.mark, 2⟩]).txSegs = ⟨.space, 2⟩ :: ⟨.mark, 2⟩ :: []) ∧
    ((sending 1 []).txBusy = true ∧ (sending 1 []).txLeft = 1 ∧ (sending 1 []).txSegs = [⟨.space, 2⟩]) := by decide

theorem witness_TransmissionLastsItsTicks :
    (board .enabled .listening).cfg.ok ∧ (0 : InstId).val < (board .enabled .listening).cfg.nInst ∧
    (board .enabled .listening).st 0 ≠ .disabled ∧
    (∃ text, Instr.sendCommand 0 [0x61] = .sendCommand 0 text ∧
      commandSegs bench [0x61] = commandSegs (board .enabled .listening).cfg text ∧
      41 = bench.breakTicks + bench.wakeMarkTicks + 10 * bench.bitTicks * text.length) :=
  ⟨by decide, by decide, by decide, [0x61], rfl, rfl, rfl⟩

theorem witness_OwnTransmissionIsNotReceived :
    LineInv (board .enabled .listening) ∧ (1 : InstId).val < (board .enabled .listening).cfg.nInst ∧
    (board .enabled .listening).reg = some 1 ∧
    (∃ b, Instr.write 1 0x41 = .write 1 b ∧ 20 = 10 * (board .enabled .listening).cfg.bitTicks) :=
  ⟨⟨by decide, by decide, by decide, by decide⟩, by decide, by decide, 0x41, rfl, rfl⟩

theorem witness_RoundTripBetweenTwoInstances :
    let s := board .enabled .listening
    s.cfg.ok ∧ BufferInv s ∧ (0 : InstId) ≠ 1 ∧ (0 : InstId).val < s.cfg.nInst ∧ s.st 0 ≠ .disabled ∧
    armed s 1 = true ∧ s.rxBusy = false ∧ (s.pin 1).toNat < s.cfg.nPins ∧
    netOf s.cfg (s.pin 0) = netOf s.cfg (s.pin 1) ∧
    (∀ j : InstId, j ≠ 0 → drives s j = true → netOf s.cfg (s.pin j) ≠ netOf s.cfg (s.pin 1)) ∧
    sampleOffset s.cfg.bitTicks 8 + 1 ≤ s.cfg.breakTicks ∧ 1 ≤ s.cfg.wakeMarkTicks ∧
    (∀ c ∈ ([0x61, 0x7F] : List Byte), c.toNat < 0x80) ∧ s.count.val + 2 ≤ 75 ∧
    (∀ d ∈ List.replicate 61 ({} : Draw), extDrive d (netOf s.cfg (s.pin 1)) = .release) := by decide +kernel

theorem witness_InstancesDriveByLineState :
    (board .holding .listening).st 0 = .holding ∧
    ((sending 2 []).st 0 = .transmitting ∧ (sending 2 []).txSegs = ⟨.space, 2⟩ :: []) ∧
    (off []).st 0 = .disabled ∧ (board .enabled .listening).st 0 = .enabled ∧
    (board .enabled .listening).st 1 = .listening := by decide

theorem witness_NetLevelsResolve :
    (∀ i : InstId, drv (board .enabled .listening) i = none) ∧
    (drv (board .holding .listening) 0 = some .mark ∧ extDrive {} 2 = .release) ∧
    (drv (sending 2 []) 0 = some .space ∧ drv (sending 2 []) 1 = none) ∧
    (drv (board .holding .listening) 0 = some .mark ∧ netOf bench ((board .holding .listening).pin 0) = 2 ∧
      extDrive (driven .space) 2 = .drive .space) := by decide

theorem witness_AtMostOneInstanceIsArmed : armed (board .enabled .listening) 1 = true := by decide
theorem witness_CommandsOnlyDrainTheBuffer : ∃ t, exec (.read 0) holdingByte = .next t := ⟨_, rfl⟩
theorem witness_TickFrame : full.ovf = false ∧ { full with ovf := true }.ovf = true ∧
    (1 : Fin 75) ≠ (off []).head := by decide

theorem witness_TransitionGraph : (off []).cfg.ok ∧
    (∃ t, exec (.beginInst 0) (off []) = .next t ∧ t.st 0 ≠ (off []).st 0 ∧ t.st 0 = .enabled) ∧
    (∃ t, exec (.endInst 0) (board .enabled .enabled) = .next t ∧ t.st 0 = .disabled) ∧
    (∃ t, exec (.forceHold 0) (board .enabled .enabled) = .next t ∧ t.st 0 = .holding) ∧
    (∃ t, exec (.sendResponse 0 []) (board .enabled .enabled) = .next t ∧ t.st 0 = .listening) ∧
    (∃ t, exec (.write 0 0x41) (board .enabled .enabled) = .next t ∧ t.st 0 = .transmitting) :=
  ⟨by decide, ⟨_, rfl, by decide, rfl⟩, ⟨_, rfl, rfl⟩, ⟨_, rfl, rfl⟩, ⟨_, rfl, rfl⟩, ⟨_, rfl, rfl⟩⟩

theorem witness_InitArmsTheInstance :
    let s := board .disabled .enabled
    (0 : InstId).val < s.cfg.nInst ∧ (2 : PinId).toNat < s.cfg.nPins ∧ s.st 0 = .disabled ∧ s.reg ≠ some 0 ∧
    s.txBusy = false ∧ s.rxBusy = false ∧
    (∀ j : InstId, j ≠ 0 → s.st j ≠ .disabled → s.pin j ≠ 2) := by decide

theorem witness_ResetMeetsTheInvariants : bench.ok ∧ ([0x00, 0x08] : List Byte).length < 2 ^ 32 := by decide

theorem witness_StepKeepsTheSlotsCanonical : Memory.wf full.slots = true ∧
    (∃ t, step { full with inputs := [{ hostTurn := false }] } = .next t) := ⟨by decide, _, rfl⟩
theorem witness_StepKeepsTheBufferInvariant : BufferInv { full with inputs := [{ hostTurn := false }] } ∧
    (∃ t, step { full with inputs := [{ hostTurn := false }] } = .next t) := ⟨by decide +kernel, _, rfl⟩
theorem witness_StepKeepsTheLineInvariant :
    LineInv { sending 1 [] with inputs := [{ hostTurn := false }] } ∧
    (∃ t, step { sending 1 [] with inputs := [{ hostTurn := false }] } = .next t) :=
  ⟨⟨by decide, by decide, by decide, by decide⟩, _, rfl⟩
theorem witness_StepKeepsTheSamplingInvariant :
    LineInv { receiving .enabled with inputs := [{ hostTurn := false }], now := 9 } ∧
    SamplingInv { receiving .enabled with inputs := [{ hostTurn := false }], now := 9 } ∧
    (∃ t, step { receiving .enabled with inputs := [{ hostTurn := false }], now := 9 } = .next t) :=
  ⟨⟨by decide, by decide, by decide, by decide⟩, by decide, _, rfl⟩
theorem witness_StepKeepsTheHostInvariant :
    HostInv { sending 1 [] with inputs := [{ hostTurn := false }] } ∧
    HostInv { host [0x00, 0x08] with cp := 0 } ∧ (∃ t, step (host [0x00, 0x08]) = .next t) :=
  ⟨by decide, by decide, _, rfl⟩
theorem witness_StepKeepsParametersAndStream : ∃ t, step (host [0x00, 0x08]) = .next t := ⟨_, rfl⟩

end Sys2Proof.Tests
end

section
/-! The parameters (00_scope.md R6) and the command stream (20_memory.md R45) under the operations that
Laws/Phases.lean leaves out: END's registry release, the whole tick, every command and the HostStep. -/

namespace Sys2Proof.Machine

@[simp] theorem releaseRegistry_cfg (i : InstId) (s : State) : (releaseRegistry i s).cfg = s.cfg := by
  obtain ⟨-, h⟩ | ⟨-, h⟩ := releaseRegistry_cases i s <;> simp [h]

@[simp] theorem releaseRegistry_stream (i : InstId) (s : State) : (releaseRegistry i s).stream = s.stream := by
  obtain ⟨-, h⟩ | ⟨-, h⟩ := releaseRegistry_cases i s <;> simp [h]

@[simp] theorem tick_cfg (d : Draw) (s : State) : (tick d s).cfg = s.cfg := by simp [tick]

@[simp] theorem tick_stream (d : Draw) (s : State) : (tick d s).stream = s.stream := by simp [tick]

/-- Whatever kind of effect a command has, it writes neither the parameters nor the stream. -/
theorem CommandEffect.cfg_stream {c : Instr} {s t : State} (h : CommandEffect s c t) :
    t.cfg = s.cfg ∧ t.stream = s.stream := by
  cases h <;> simp

theorem hostStep_cfg_stream {s t : State} (h : hostStep s = .next t) : t.cfg = s.cfg ∧ t.stream = s.stream := by
  obtain ⟨r, -, rfl⟩ | ⟨c, -, hc⟩ := hostStep_cases h
  · exact ⟨raiseFault_cfg .., raiseFault_stream ..⟩
  · exact (exec_effect hc).cfg_stream

/-- Settles O57: a HostStep's effect and each phase of a tick leave both fields, and so does taking the input. -/
theorem stepKeepsParametersAndStream : Obligations.StepKeepsParametersAndStream := by
  intro s t h
  obtain ⟨-, ⟨-, -, hhost⟩ | rfl⟩ := step_cases h
  · simpa using hostStep_cfg_stream hhost
  · simp

end Sys2Proof.Machine
end

section
/-! Progress (60_exceptions.md R103, 70_reset_and_hazards.md R121), and the derived predicates of 10_state.md R26 to
R28. -/

namespace Sys2Proof.Machine

/-- A HostStep always answers a next state: a rejected command's is the one its fault is recorded in (R103). -/
theorem hostStep_next (s : State) : ∃ t, hostStep s = .next t := by
  unfold hostStep
  split
  · exact exec_next _ s
  · exact ⟨_, rfl⟩

theorem step_of_halted {s : State} (h : halted s = true) : step s = .fault .halted := by
  simp [step, h]

theorem step_next_of_not_halted {s : State} (h : halted s = false) : ∃ t, step s = .next t := by
  unfold step
  rw [h, if_neg Bool.false_ne_true]
  split
  · exact hostStep_next _
  · exact ⟨_, rfl⟩

/-- Settles O9: neither a HostStep nor a Tick stops, and step asks for a fault before either. -/
theorem onlyHaltedBlocksStop : Obligations.OnlyHaltedBlocksStop := by
  intro s
  refine ⟨fun h => step_next_of_not_halted ?_, fun h => step_of_halted ?_⟩ <;> simpa [safe] using h

theorem drives_iff (s : State) (i : InstId) : drives s i = true ↔ s.st i = .holding ∨ s.st i = .transmitting := by
  simp [drives]

theorem sens_iff (s : State) (i : InstId) : sens s i = true ↔ s.st i ≠ .disabled := by
  simp [sens]

/-- Settles O43: the rows of R40's table, and R28's predicate. -/
theorem instancesDriveByLineState : Obligations.InstancesDriveByLineState := by
  intro s i
  refine ⟨fun h => ?_, fun g gs h hsegs => ?_, fun h => ?_, drives_iff s i, rfl⟩
  · simp [drv, h]
  · simp [drv, h, hsegs]
  · obtain h | h | h := h <;> simp [drv, h]

/-- An armed instance is LISTENING, hence not DISABLED (R26, R27). -/
theorem sens_of_armed {s : State} {i : InstId} (h : armed s i = true) : sens s i = true := by
  obtain ⟨-, hst⟩ := (armed_iff s i).mp h
  simp [sens_iff, hst]

/-- The registry names one instance (R26). -/
theorem armed_unique {s : State} {i j : InstId} (hi : armed s i = true) (hj : armed s j = true) : j = i :=
  Option.some.inj (((armed_iff s j).mp hj).1.symm.trans ((armed_iff s i).mp hi).1)

/-- Settles O45, by the two facts about an armed instance. -/
theorem atMostOneInstanceIsArmed : Obligations.AtMostOneInstanceIsArmed := fun s i =>
  ⟨armed_iff s i, sens_iff s i, fun h => ⟨sens_of_armed h, fun _ hj => armed_unique h hj⟩⟩

end Sys2Proof.Machine
end

section
/-! The buffer side of R30 (10_state.md): `head = (tail + count) mod CAP`, canonical slots, and a 7-bit character in
every slot held, under the operations on the buffer, the phases of a tick and every command. -/

namespace Sys2Proof.Machine

@[simp] theorem releaseRegistry_slots (i : InstId) (s : State) : (releaseRegistry i s).slots = s.slots := by
  obtain ⟨-, h⟩ | ⟨-, h⟩ := releaseRegistry_cases i s <;> simp [h]

@[simp] theorem releaseRegistry_head (i : InstId) (s : State) : (releaseRegistry i s).head = s.head := by
  obtain ⟨-, h⟩ | ⟨-, h⟩ := releaseRegistry_cases i s <;> simp [h]

@[simp] theorem releaseRegistry_tail (i : InstId) (s : State) : (releaseRegistry i s).tail = s.tail := by
  obtain ⟨-, h⟩ | ⟨-, h⟩ := releaseRegistry_cases i s <;> simp [h]

@[simp] theorem releaseRegistry_count (i : InstId) (s : State) : (releaseRegistry i s).count = s.count := by
  obtain ⟨-, h⟩ | ⟨-, h⟩ := releaseRegistry_cases i s <;> simp [h]

/-- The invariant speaks of these four fields only. -/
theorem bufferInv_congr {s t : State} (h : BufferInv s) (hslots : t.slots = s.slots) (hhead : t.head = s.head)
    (htail : t.tail = s.tail) (hcount : t.count = s.count) : BufferInv t := by
  simpa [BufferInv, hslots, hhead, htail, hcount] using h

/-- With room, the slot filled is the one `count` places after `tail`, and no slot held is `head` (R79). -/
theorem bufferInv_push {s : State} {v : Byte} (hv : v.toNat < 128) (h : BufferInv s) : BufferInv (push v s) := by
  obtain ⟨hwf, hhead, hheld⟩ := h
  by_cases hroom : s.count.val < 75
  · rw [push_room v s hroom]
    refine ⟨memWrite_wf s s.head v hwf, ?_, fun k hk => ?_⟩
    · simp only [memWrite_tail, nextSlot]
      omega
    · simp only [memWrite_slots, memWrite_tail, slotAfter] at hk ⊢
      by_cases hnew : k.val = s.count.val
      · rw [hnew, ← hhead, read?_write_same]
        simpa using hv
      · rw [read?_write_other _ _ _ _ (by omega)]
        exact hheld k (by omega)
  · rw [push_full v s hroom]
    exact ⟨hwf, hhead, hheld⟩

/-- The k-th slot held afterwards is the one held before at k + 1 (R82). -/
theorem bufferInv_dropOldest {s : State} (hn : s.count ≠ 0) (h : BufferInv s) : BufferInv (dropOldest s) := by
  obtain ⟨hwf, hhead, hheld⟩ := h
  have hpos : s.count.val ≠ 0 := fun e => hn (Fin.ext e)
  refine ⟨hwf, ?_, fun k hk => ?_⟩
  · simp only [dropOldest_head, dropOldest_tail, dropOldest_count, nextSlot]
    omega
  · simp only [dropOldest_count] at hk
    have hslot : slotAfter (nextSlot s.tail) k.val = slotAfter s.tail (k.val + 1) := by
      simp only [slotAfter, nextSlot, Fin.mk.injEq]
      omega
    have hcount := s.count.isLt
    simpa [hslot] using hheld ⟨k.val + 1, by omega⟩ (by simp only; omega)

theorem bufferInv_emptyBuffer {s : State} (h : BufferInv s) : BufferInv (emptyBuffer s) := by
  obtain ⟨hwf, -, -⟩ := h
  exact ⟨hwf, rfl, fun k hk => absurd hk (Nat.not_lt_zero k.val)⟩

/-- The character pushed has seven bits (R73). -/
theorem bufferInv_completeChar {s : State} (h : BufferInv s) : BufferInv (completeChar s) := by
  obtain ⟨-, heq⟩ | ⟨-, heq⟩ := completeChar_cases s
  · rw [heq]
    have hseven : ((patData s.rxPat).setWidth 8).toNat < 128 := by
      have := (patData s.rxPat).isLt
      rw [BitVec.toNat_setWidth]
      omega
    exact bufferInv_push hseven h
  · rw [heq]
    exact h

theorem bufferInv_takeSample {s : State} (v : Level) (h : BufferInv s) : BufferInv (takeSample v s) := by
  obtain ⟨_, heq⟩ | ⟨-, heq⟩ := takeSample_cases v s
  · rw [heq]
    exact h
  · rw [heq]
    exact bufferInv_completeChar h

theorem bufferInv_samplePhase {s : State} (lvl : PinId → Level) (h : BufferInv s) :
    BufferInv (samplePhase lvl s) := by
  obtain ⟨heq, -⟩ | ⟨a, -, -, -, heq⟩ := samplePhase_cases lvl s
  · rwa [heq]
  · rw [heq]
    exact bufferInv_takeSample _ h

/-- The phases after the sampler do not touch the buffer. -/
theorem bufferInv_tick {s : State} (d : Draw) (h : BufferInv s) : BufferInv (tick d s) := by
  apply bufferInv_congr (bufferInv_samplePhase (pinLevel d s) h) <;> simp [tick]

/-- Only READ and CLEAR_BUFFER touch the buffer. -/
theorem CommandEffect.bufferInv {c : Instr} {s t : State} (he : CommandEffect s c t) (h : BufferInv s) :
    BufferInv t := by
  cases he with
  | byteRead hn => exact bufferInv_dropOldest hn h
  | cleared => exact bufferInv_emptyBuffer (s := s) h
  | _ => apply bufferInv_congr h <;> simp

theorem bufferInv_hostStep {s t : State} (hstep : hostStep s = .next t) (h : BufferInv s) : BufferInv t := by
  obtain ⟨r, -, rfl⟩ | ⟨c, -, hc⟩ := hostStep_cases hstep
  · exact h
  · exact (exec_effect hc).bufferInv h

/-- Settles O53: a HostStep and a Tick keep the invariant, and taking the input leaves the buffer alone. -/
theorem stepKeepsTheBufferInvariant : Obligations.StepKeepsTheBufferInvariant := by
  intro s t hstep h
  have hinput : BufferInv (dropInput s) := by apply bufferInv_congr h <;> simp
  obtain ⟨-, ⟨-, -, hhost⟩ | rfl⟩ := step_cases hstep
  · exact bufferInv_hostStep hhost hinput
  · exact bufferInv_tick _ hinput

end Sys2Proof.Machine
end

section
/-! R30(b) and R30(f) (10_state.md): registry and pins, under the operations on the line state. -/

namespace Sys2Proof.Machine

@[simp] theorem releaseRegistry_prev (i : InstId) (s : State) : (releaseRegistry i s).prev = s.prev := by
  obtain ⟨-, h⟩ | ⟨-, h⟩ := releaseRegistry_cases i s <;> simp [h]

@[simp] theorem releaseRegistry_insts (i : InstId) (s : State) : (releaseRegistry i s).insts = s.insts := by
  obtain ⟨-, h⟩ | ⟨-, h⟩ := releaseRegistry_cases i s <;> simp [h]

@[simp] theorem releaseRegistry_st (i : InstId) (s : State) (j : InstId) :
    (releaseRegistry i s).st j = s.st j := by
  simp [State.st]

@[simp] theorem releaseRegistry_pin (i : InstId) (s : State) (j : InstId) :
    (releaseRegistry i s).pin j = s.pin j := by
  simp [State.pin]

/-- END leaves no registration of the instance (R62), and every other one as it was. -/
theorem releaseRegistry_reg_eq_some_iff (i j : InstId) (s : State) :
    (releaseRegistry i s).reg = some j ↔ s.reg = some j ∧ j ≠ i := by
  obtain ⟨hreg, h⟩ | ⟨hreg, h⟩ := releaseRegistry_cases i s
  · simp [h, hreg, eq_comm]
  · rw [h]
    exact ⟨fun hj => ⟨hj, fun e => hreg (e ▸ hj)⟩, And.left⟩

/-- The invariant speaks of these registers only. -/
theorem enabledInv_congr {s t : State} (h : EnabledInv s) (hcfg : t.cfg = s.cfg) (hst : ∀ i, t.st i = s.st i)
    (hpin : ∀ i, t.pin i = s.pin i) (hreg : t.reg = s.reg) (hprev : t.prev.length = s.prev.length) :
    EnabledInv t := by
  simpa [EnabledInv, instExists, pinExists, hcfg, hst, hpin, hreg, hprev] using h

/-- A change from one enabled line state to another. -/
theorem enabledInv_setSt {s : State} {i : InstId} {v : LineState} (hi : s.st i ≠ .disabled) (hv : v ≠ .disabled)
    (h : EnabledInv s) : EnabledInv (s.setSt i v) := by
  have hsame : ∀ j, (s.setSt i v).st j ≠ .disabled ↔ s.st j ≠ .disabled := by
    intro j
    rw [st_setSt]
    split
    · next hji => simp [hji, hi, hv]
    · rfl
  simpa only [EnabledInv, hsame, pin_setSt, instExists, pinExists, setSt_reg, setSt_cfg, setSt_prev] using h

/-- BEGIN and BEGIN_PIN: the pin checks of R60 and R61 are what the invariant asks of the new instance. -/
theorem enabledInv_enable {s : State} {i : InstId} {p : PinId} (hi : s.st i = .disabled)
    (hexists : instExists s i = true) (hp : pinExists s p = true) (hfree : pinInUse s i p = false)
    (h : EnabledInv s) : EnabledInv ((s.setPin i p).setSt i .enabled) := by
  obtain ⟨hreg, hrange, hown, hprev⟩ := h
  have hothers : ∀ j, j ≠ i → s.st j ≠ .disabled → s.pin j ≠ p := fun j hj hst hpin =>
    Bool.eq_false_iff.mp hfree
      ((pinInUse_iff s i p).mpr ⟨j, (instExists_iff s j).mp (hrange j hst).1, hj, hst, hpin⟩)
  refine ⟨fun j hj => ?_, fun j hj => ?_, fun j k hjk hj hk => ?_, hprev⟩
  · have hne : j ≠ i := fun e => hreg j hj (e ▸ hi)
    simpa [hne] using hreg j hj
  · by_cases hji : j = i
    · simpa [hji, instExists, pinExists] using And.intro hexists hp
    · simp only [st_setSt, st_setPin, hji, if_false] at hj
      simpa [hji, instExists, pinExists] using hrange j hj
  · by_cases hji : j = i <;> by_cases hki : k = i <;>
      simp only [st_setSt, st_setPin, pin_setSt, pin_setPin, hji, hki, if_true, if_false] at hj hk ⊢
    · exact absurd (hji.trans hki.symm) hjk
    · exact (hothers k hki hk).symm
    · exact hothers j hji hj
    · exact hown j k hjk hj hk

/-- END: a disabled instance must not be the active one, which is what the registry's release is for (R62). -/
theorem enabledInv_disable {s : State} (i : InstId) (h : EnabledInv s) :
    EnabledInv ((releaseRegistry i s).setSt i .disabled) := by
  obtain ⟨hreg, hrange, hown, hprev⟩ := h
  have hstill : ∀ j, ((releaseRegistry i s).setSt i .disabled).st j ≠ .disabled → s.st j ≠ .disabled := by
    intro j
    rw [st_setSt, releaseRegistry_st]
    split
    · exact fun hj => absurd rfl hj
    · exact id
  refine ⟨fun j hj => ?_, fun j hj => ?_, fun j k hjk hj hk => ?_, ?_⟩
  · obtain ⟨hj, hne⟩ := (releaseRegistry_reg_eq_some_iff i j s).mp hj
    simpa [hne] using hreg j hj
  · simpa [instExists, pinExists] using hrange j (hstill j hj)
  · simpa using hown j k hjk (hstill j hj) (hstill k hk)
  · simpa using hprev

end Sys2Proof.Machine
end

section
/-! R30(d) (10_state.md): an assembly in progress belongs to the armed instance. -/

namespace Sys2Proof.Machine

/-- The invariant speaks of these registers only. -/
theorem assemblyInv_congr {s t : State} (h : AssemblyInv s) (hst : ∀ i, t.st i = s.st i) (hreg : t.reg = s.reg)
    (hbusy : t.rxBusy = s.rxBusy) (hn : t.rxN = s.rxN) (hpat : t.rxPat = s.rxPat) : AssemblyInv t := by
  simpa [AssemblyInv, armed, hst, hreg, hbusy, hn, hpat] using h

/-- A change of the line state never disarms the instance an assembly belongs to. -/
theorem assemblyInv_setSt {s : State} {i : InstId} {v : LineState}
    (hkeep : s.rxBusy = true → armed s i = true → v = .listening) (h : AssemblyInv s) :
    AssemblyInv (s.setSt i v) := by
  refine ⟨fun hbusy => ?_, h.2⟩
  obtain ⟨j, hj⟩ := h.1 hbusy
  refine ⟨j, (armed_iff _ j).mpr ?_⟩
  obtain ⟨hreg, hst⟩ := (armed_iff s j).mp hj
  refine ⟨hreg, ?_⟩
  by_cases hji : j = i
  · simpa [hji] using hkeep hbusy (hji ▸ hj)
  · simpa [hji] using hst

theorem assemblyInv_clearAssembly (s : State) : AssemblyInv (clearAssembly s) :=
  ⟨fun hbusy => absurd hbusy Bool.false_ne_true, fun _ => ⟨rfl, rfl⟩⟩

theorem assemblyInv_leaveListening {s : State} (i : InstId) (h : AssemblyInv s) :
    AssemblyInv (leaveListening i s) := by
  obtain ⟨-, -, heq⟩ | ⟨-, heq⟩ := leaveListening_cases i s
  · exact heq ▸ assemblyInv_clearAssembly s
  · exact heq.symm ▸ h

/-- What DropAssembly is for (R58): after it no assembly belongs to the instance. -/
theorem leaveListening_not_armed_of_rxBusy {s : State} {i : InstId}
    (hbusy : (leaveListening i s).rxBusy = true) : ¬ armed (leaveListening i s) i = true := by
  obtain ⟨-, -, heq⟩ | ⟨hno, heq⟩ := leaveListening_cases i s
  · simp [heq] at hbusy
  · rw [heq] at hbusy ⊢
    exact fun harm => hno ⟨harm, hbusy⟩

/-- END clears the assembly of the active instance before it empties the registry (R62). -/
theorem assemblyInv_releaseRegistry {s : State} (i : InstId) (h : AssemblyInv s) :
    AssemblyInv (releaseRegistry i s) := by
  obtain ⟨hreg, heq⟩ | ⟨-, heq⟩ := releaseRegistry_cases i s
  · obtain ⟨-, -, hdrop⟩ | ⟨hno, hdrop⟩ := dropAssembly_cases i s
    · rw [heq, hdrop]
      exact ⟨fun hbusy => absurd hbusy Bool.false_ne_true, fun _ => ⟨rfl, rfl⟩⟩
    · rw [heq, hdrop]
      exact ⟨fun hbusy => absurd ⟨hreg, hbusy⟩ hno, h.2⟩
  · exact heq.symm ▸ h

theorem assemblyInv_disable {s : State} (i : InstId) (h : AssemblyInv s) :
    AssemblyInv ((releaseRegistry i s).setSt i .disabled) := by
  refine assemblyInv_setSt (fun _ harm => ?_) (assemblyInv_releaseRegistry i h)
  have hreg := ((armed_iff _ i).mp harm).1
  exact absurd rfl ((releaseRegistry_reg_eq_some_iff i i s).mp hreg).2

/-- The ninth sample ends the assembly, whatever the character was (R73); the others keep it. -/
theorem assemblyInv_takeSample {s : State} (v : Level) (hbusy : s.rxBusy = true) (h : AssemblyInv s) :
    AssemblyInv (takeSample v s) := by
  obtain ⟨_, heq⟩ | ⟨-, heq⟩ := takeSample_cases v s
  · rw [heq]
    exact ⟨fun _ => h.1 hbusy, fun hidle => absurd (hbusy.symm.trans hidle) Bool.noConfusion⟩
  · rw [heq]
    exact assemblyInv_clearAssembly _

theorem assemblyInv_samplePhase {s : State} (lvl : PinId → Level) (h : AssemblyInv s) :
    AssemblyInv (samplePhase lvl s) := by
  obtain ⟨heq, -⟩ | ⟨a, -, hbusy, -, heq⟩ := samplePhase_cases lvl s
  · rwa [heq]
  · rw [heq]
    exact assemblyInv_takeSample _ hbusy h

/-- An assembly starts for the armed instance only (R70). -/
theorem assemblyInv_interruptPhase {s : State} (lvl : PinId → Level) (h : AssemblyInv s) :
    AssemblyInv (interruptPhase lvl s) := by
  obtain ⟨heq, -⟩ | ⟨a, harm, -, -, heq⟩ := interruptPhase_cases lvl s
  · rwa [heq]
  · rw [heq]
    exact ⟨fun _ => ⟨a, harm⟩, fun hidle => absurd hidle.symm Bool.false_ne_true⟩

end Sys2Proof.Machine
end

section
/-! R30(e) (10_state.md): the transmitter and the instance that is TRANSMITTING, and the ranges of the segments. -/

namespace Sys2Proof.Machine

@[simp] theorem releaseRegistry_txBusy (i : InstId) (s : State) : (releaseRegistry i s).txBusy = s.txBusy := by
  obtain ⟨-, h⟩ | ⟨-, h⟩ := releaseRegistry_cases i s <;> simp [h]

@[simp] theorem releaseRegistry_txInst (i : InstId) (s : State) : (releaseRegistry i s).txInst = s.txInst := by
  obtain ⟨-, h⟩ | ⟨-, h⟩ := releaseRegistry_cases i s <;> simp [h]

@[simp] theorem releaseRegistry_txSegs (i : InstId) (s : State) : (releaseRegistry i s).txSegs = s.txSegs := by
  obtain ⟨-, h⟩ | ⟨-, h⟩ := releaseRegistry_cases i s <;> simp [h]

@[simp] theorem releaseRegistry_txLeft (i : InstId) (s : State) : (releaseRegistry i s).txLeft = s.txLeft := by
  obtain ⟨-, h⟩ | ⟨-, h⟩ := releaseRegistry_cases i s <;> simp [h]

@[simp] theorem releaseRegistry_txLen (i : InstId) (s : State) : (releaseRegistry i s).txLen = s.txLen := by
  obtain ⟨-, h⟩ | ⟨-, h⟩ := releaseRegistry_cases i s <;> simp [h]

/-! ### The segments of the transmit commands (R91 to R96) -/

theorem mem_driveable_iff (g : Seg) (segs : List Seg) : g ∈ driveable segs ↔ g ∈ segs ∧ 0 < g.ticks := by
  simp [driveable]

theorem ticks_of_mem_charSegs {w : Nat} {c : Byte} {g : Seg} (h : g ∈ charSegs w c) : g.ticks = w := by
  simp only [charSegs, List.mem_cons, List.not_mem_nil, or_false] at h
  rcases h with rfl | rfl | rfl | rfl | rfl | rfl | rfl | rfl | rfl | rfl <;> rfl

theorem ticks_of_mem_textSegs {w : Nat} {text : List Byte} {g : Seg} (h : g ∈ textSegs w text) : g.ticks = w := by
  obtain ⟨c, -, hg⟩ := List.mem_flatMap.mp h
  exact ticks_of_mem_charSegs hg

/-- With parameters in range (R6), a segment of a transmit command fits the 32 bits of `tx_left` (log 11). -/
theorem ticks_lt_of_mem_sent {s : State} {c : Instr} {segs : List Seg} (hok : s.cfg.ok)
    (hc : (∃ b, c = .write c.inst b ∧ segs = charSegs s.cfg.bitTicks b) ∨
      (∃ t, c = .sendCommand c.inst t ∧ segs = commandSegs s.cfg t) ∨
      (∃ t, c = .sendResponse c.inst t ∧ segs = responseSegs s.cfg t)) :
    ∀ g ∈ segs, g.ticks < 2 ^ 32 := by
  obtain ⟨-, -, ⟨-, hbit⟩, ⟨-, hbreak⟩, hwake, hresp⟩ := hok
  have htext : ∀ t, ∀ g ∈ textSegs s.cfg.bitTicks t, g.ticks < 2 ^ 32 := fun t g hg => by
    rw [ticks_of_mem_textSegs hg]
    omega
  obtain ⟨b, -, rfl⟩ | ⟨t, -, rfl⟩ | ⟨t, -, rfl⟩ := hc
  · intro g hg
    rw [ticks_of_mem_charSegs hg]
    omega
  · exact List.forall_mem_cons.mpr ⟨hbreak, List.forall_mem_cons.mpr ⟨hwake, htext t⟩⟩
  · exact List.forall_mem_cons.mpr ⟨hresp, htext t⟩

/-- `tx_left` holds the whole length of a segment in range (R20). -/
theorem toNat_segTicks {g : Seg} (hg : g.ticks < 2 ^ 32) : (segTicks g).toNat = g.ticks :=
  (BitVec.toNat_ofNat g.ticks 32).trans (Nat.mod_eq_of_lt hg)

/-! ### The invariant -/

/-- The invariant speaks of these registers only. -/
theorem transmitInv_congr {s t : State} (h : TransmitInv s) (hst : ∀ i, t.st i = s.st i)
    (hbusy : t.txBusy = s.txBusy) (hinst : t.txInst = s.txInst) (hsegs : t.txSegs = s.txSegs)
    (hleft : t.txLeft = s.txLeft) (hlen : t.txLen = s.txLen) : TransmitInv t := by
  simpa only [TransmitInv, hst, hbusy, hinst, hsegs, hleft, hlen] using h

/-- While the transmitter is idle nobody is TRANSMITTING. -/
theorem TransmitInv.not_transmitting {s : State} (h : TransmitInv s) (hidle : s.txBusy = false) (i : InstId) :
    s.st i ≠ .transmitting := fun hi =>
  Bool.false_ne_true (hidle.symm.trans ((h.1 i).mp hi).1)

/-- While the transmitter is idle every line state but TRANSMITTING may be taken. -/
theorem transmitInv_setSt {s : State} {i : InstId} {v : LineState} (hidle : s.txBusy = false)
    (hv : v ≠ .transmitting) (h : TransmitInv s) : TransmitInv (s.setSt i v) := by
  refine ⟨fun j => ?_, h.2⟩
  have hj := h.not_transmitting hidle j
  by_cases hji : j = i <;> simp [hji, hidle, hv, hj]

/-- EndOfFrame (R98) leaves the transmitter idle, and was for the only instance TRANSMITTING. -/
theorem transmitInv_endOfFrame {s : State} {i : InstId} {len : Nat}
    (honly : ∀ j, s.st j = .transmitting → j = i) : TransmitInv (endOfFrame i len s) := by
  refine ⟨fun j => ?_, by simp, by simp, by simp⟩
  by_cases hji : j = i
  · simp [hji]
  · simpa [hji] using fun hj => hji (honly j hj)

/-- StartTx with a segment to drive (R93). -/
theorem transmitInv_beginFrame {s : State} {i : InstId} {g : Seg} {gs : List Seg} {len : Nat}
    (hidle : s.txBusy = false) (hrange : ∀ x ∈ g :: gs, 0 < x.ticks ∧ x.ticks < 2 ^ 32) (h : TransmitInv s) :
    TransmitInv (beginFrame i g gs len s) := by
  refine ⟨fun j => ?_, hrange, fun _ => ?_, fun hno => absurd hno.symm Bool.false_ne_true⟩
  · have hj := h.not_transmitting hidle j
    by_cases hji : j = i <;> simp [hji, hj]
  · obtain ⟨hpos, hlt⟩ := hrange g List.mem_cons_self
    simp only [beginFrame_txLeft, beginFrame_txSegs, toNat_segTicks hlt]
    exact ⟨hpos, Nat.le_refl _⟩

/-- The transmit phase (R97): the count stays in 1 .. the head segment's length until the frame ends. -/
theorem transmitInv_transmitPhase {s : State} (h : TransmitInv s) : TransmitInv (transmitPhase s) := by
  obtain ⟨hst, hrange, hleft, hidle⟩ := h
  obtain ⟨-, heq⟩ | ⟨hbusy, hne, heq⟩ | ⟨hbusy, -, g, gs, htail, heq⟩ | ⟨hbusy, -, -, heq⟩ :=
    transmitPhase_cases s
  · exact heq.symm ▸ ⟨hst, hrange, hleft, hidle⟩
  · rw [heq]
    refine ⟨hst, hrange, fun _ => ?_, fun hno => absurd (hbusy.symm.trans hno) Bool.noConfusion⟩
    obtain ⟨hlo, hhi⟩ := hleft hbusy
    have hone : s.txLeft.toNat ≠ 1 := fun e => hne (BitVec.eq_of_toNat_eq e)
    have hsub : (s.txLeft - 1).toNat = s.txLeft.toNat - 1 := BitVec.toNat_sub_of_le hlo
    simp only [hsub]
    omega
  · rw [heq]
    have hmem : ∀ x ∈ g :: gs, 0 < x.ticks ∧ x.ticks < 2 ^ 32 := fun x hx =>
      hrange x (List.mem_of_mem_tail (htail ▸ hx))
    obtain ⟨hpos, hlt⟩ := hmem g List.mem_cons_self
    refine ⟨hst, hmem, fun _ => ?_, fun hno => absurd (hbusy.symm.trans hno) Bool.noConfusion⟩
    simp only [toNat_segTicks hlt]
    exact ⟨hpos, Nat.le_refl _⟩
  · rw [heq]
    exact transmitInv_endOfFrame fun j hj => ((hst j).mp hj).2

end Sys2Proof.Machine
end

section
/-! The line side of R30 together, under every command, a HostStep and a Tick. -/

namespace Sys2Proof.Machine

/-- A change of the host registers, the buffer, the clock or the inputs. -/
theorem lineInv_congr {s t : State} (h : LineInv s) (hcfg : t.cfg = s.cfg) (hst : ∀ i, t.st i = s.st i)
    (hpin : ∀ i, t.pin i = s.pin i) (hreg : t.reg = s.reg) (hprev : t.prev.length = s.prev.length)
    (hrxBusy : t.rxBusy = s.rxBusy) (hn : t.rxN = s.rxN) (hpat : t.rxPat = s.rxPat)
    (htxBusy : t.txBusy = s.txBusy) (hinst : t.txInst = s.txInst) (hsegs : t.txSegs = s.txSegs)
    (hleft : t.txLeft = s.txLeft) (hlen : t.txLen = s.txLen) : LineInv t := by
  obtain ⟨hok, hen, has, htx⟩ := h
  exact ⟨hcfg.symm ▸ hok, enabledInv_congr hen hcfg hst hpin hreg hprev,
    assemblyInv_congr has hst hreg hrxBusy hn hpat, transmitInv_congr htx hst htxBusy hinst hsegs hleft hlen⟩

theorem lineInv_retire {s : State} (len : Nat) (w : Word) (h : LineInv s) : LineInv (retire len w s) :=
  lineInv_congr h rfl (fun _ => rfl) (fun _ => rfl) rfl rfl rfl rfl rfl rfl rfl rfl rfl rfl

/-- BEGIN and BEGIN_PIN (R60, R61): a disabled instance was neither armed nor transmitting. -/
theorem lineInv_enable {s : State} {i : InstId} {p : PinId} (hi : s.st i = .disabled)
    (hexists : instExists s i = true) (hp : pinExists s p = true) (hfree : pinInUse s i p = false)
    (hidle : s.txBusy = false) (h : LineInv s) : LineInv ((s.setPin i p).setSt i .enabled) := by
  obtain ⟨hok, hen, has, htx⟩ := h
  have hst := fun j => st_setPin s i j p
  have hunarmed : ¬ armed (s.setPin i p) i = true := by simp [armed_iff, hi]
  exact ⟨hok, enabledInv_enable hi hexists hp hfree hen,
    assemblyInv_setSt (fun _ harm => absurd harm hunarmed) (assemblyInv_congr has hst rfl rfl rfl rfl),
    transmitInv_setSt hidle LineState.noConfusion (transmitInv_congr htx hst rfl rfl rfl rfl rfl)⟩

/-- END (R62). -/
theorem lineInv_disable {s : State} (i : InstId) (hidle : s.txBusy = false) (h : LineInv s) :
    LineInv ((releaseRegistry i s).setSt i .disabled) := by
  obtain ⟨hok, hen, has, htx⟩ := h
  have hreleased : TransmitInv (releaseRegistry i s) := by apply transmitInv_congr htx <;> simp
  exact ⟨by simpa using hok, enabledInv_disable i hen, assemblyInv_disable i has,
    transmitInv_setSt (by simpa using hidle) LineState.noConfusion hreleased⟩

theorem lineInv_leaveListening {s : State} (i : InstId) (h : LineInv s) : LineInv (leaveListening i s) := by
  obtain ⟨hok, hen, has, htx⟩ := h
  exact ⟨by simpa using hok, by apply enabledInv_congr hen <;> simp,
    assemblyInv_leaveListening i has,
    by apply transmitInv_congr htx <;> simp⟩

/-- FORCE_HOLD and FORCE_LISTEN (R63, R64). -/
theorem lineInv_setSt {s : State} {i : InstId} {v : LineState} (hi : s.st i ≠ .disabled) (hv : v ≠ .disabled)
    (hv' : v ≠ .transmitting) (hkeep : s.rxBusy = true → armed s i = true → v = .listening)
    (hidle : s.txBusy = false) (h : LineInv s) : LineInv (s.setSt i v) := by
  obtain ⟨hok, hen, has, htx⟩ := h
  exact ⟨hok, enabledInv_setSt hi hv hen, assemblyInv_setSt hkeep has, transmitInv_setSt hidle hv' htx⟩

/-- SET_ACTIVE moves the registry only while no character is being received (R86). -/
theorem lineInv_activate {s : State} {i : InstId} (hi : s.st i ≠ .disabled) (hrx : s.rxBusy = false)
    (h : LineInv s) : LineInv { s with reg := some i } := by
  obtain ⟨hok, ⟨-, hpins⟩, ⟨-, hclear⟩, htx⟩ := h
  exact ⟨hok, ⟨fun _ hj => Option.some.inj hj ▸ hi, hpins⟩,
    ⟨fun hbusy => absurd (hrx.symm.trans hbusy) Bool.false_ne_true, hclear⟩, htx⟩

/-- The start of a transmission (R93). -/
theorem lineInv_beginFrame {s : State} {i : InstId} {g : Seg} {gs : List Seg} (len : Nat)
    (hi : s.st i ≠ .disabled) (hunarmed : s.rxBusy = true → ¬ armed s i = true) (hidle : s.txBusy = false)
    (hrange : ∀ x ∈ g :: gs, 0 < x.ticks ∧ x.ticks < 2 ^ 32) (h : LineInv s) :
    LineInv (beginFrame i g gs len s) := by
  obtain ⟨hok, hen, has, htx⟩ := h
  have hen' : EnabledInv (s.setSt i .transmitting) := enabledInv_setSt hi LineState.noConfusion hen
  have has' : AssemblyInv (s.setSt i .transmitting) :=
    assemblyInv_setSt (fun hbusy harm => absurd harm (hunarmed hbusy)) has
  exact ⟨hok, enabledInv_congr hen' rfl (fun _ => rfl) (fun _ => rfl) rfl rfl,
    assemblyInv_congr has' (fun _ => rfl) rfl rfl rfl rfl, transmitInv_beginFrame hidle hrange htx⟩

/-- The end of a transmission (R98), by a tick or at once. -/
theorem lineInv_endOfFrame {s : State} {i : InstId} (len : Nat) (hok : s.cfg.ok) (hen : EnabledInv s)
    (has : AssemblyInv s) (hi : s.st i ≠ .disabled) (honly : ∀ j, s.st j = .transmitting → j = i) :
    LineInv (endOfFrame i len s) := by
  have hen' : EnabledInv (s.setSt i .listening) := enabledInv_setSt hi LineState.noConfusion hen
  have has' : AssemblyInv (s.setSt i .listening) := assemblyInv_setSt (fun _ _ => rfl) has
  exact ⟨hok, enabledInv_congr hen' rfl (fun _ => rfl) (fun _ => rfl) rfl rfl,
    assemblyInv_congr has' (fun _ => rfl) rfl rfl rfl rfl, transmitInv_endOfFrame honly⟩

/-- A transmit command with nothing to drive, in a state that has left LISTENING, is TRANSMITTING for no tick (R96). -/
theorem lineInv_sendNothing {s : State} {i : InstId} (len : Nat) (hi : s.st i ≠ .disabled)
    (hunarmed : s.rxBusy = true → ¬ armed s i = true) (hidle : s.txBusy = false) (h : LineInv s) :
    LineInv (endOfFrame i len (s.setSt i .transmitting)) := by
  obtain ⟨hok, hen, has, htx⟩ := h
  refine lineInv_endOfFrame len hok (enabledInv_setSt hi LineState.noConfusion hen)
    (assemblyInv_setSt (fun hbusy harm => absurd harm (hunarmed hbusy)) has) (by simp) fun j hj => ?_
  by_contra hne
  exact htx.not_transmitting hidle j (by simpa [hne] using hj)

/-- Every command keeps the line invariant while no transmission is in progress, which is when HOST has a step
(R121). -/
theorem CommandEffect.lineInv {c : Instr} {s t : State} (he : CommandEffect s c t) (hidle : s.txBusy = false)
    (h : LineInv s) : LineInv t := by
  have hleft := lineInv_leaveListening c.inst h
  have hidle' : (leaveListening c.inst s).txBusy = false := by simpa using hidle
  have henabled : s.st c.inst ≠ .disabled → (leaveListening c.inst s).st c.inst ≠ .disabled := by simp
  cases he with
  | faulted | answered | byteRead | cleared =>
    exact lineInv_congr h rfl (fun _ => rfl) (fun _ => rfl) rfl rfl rfl rfl rfl rfl rfl rfl rfl rfl
  | timeoutSet v =>
    exact lineInv_congr h rfl (st_setTmo s c.inst · v) (pin_setTmo s c.inst · v) rfl rfl rfl rfl rfl rfl rfl rfl rfl rfl
  | enabled p hst hi hp hu => exact lineInv_retire _ _ (lineInv_enable hst hi hp hu hidle h)
  | disabled => exact lineInv_retire _ _ (lineInv_disable c.inst hidle h)
  | held hst =>
    exact lineInv_retire _ _ (lineInv_setSt (henabled hst) LineState.noConfusion LineState.noConfusion
      (fun hbusy harm => absurd harm (leaveListening_not_armed_of_rxBusy hbusy)) hidle' hleft)
  | listening hst =>
    exact lineInv_retire _ _ (lineInv_setSt hst LineState.noConfusion LineState.noConfusion (fun _ _ => rfl) hidle h)
  | activated hst hreg hrx => exact lineInv_retire _ _ (lineInv_activate hst hrx h)
  | sending segs g gs hi hst hd hc =>
    have hrange : ∀ x ∈ g :: gs, 0 < x.ticks ∧ x.ticks < 2 ^ 32 := fun x hx => by
      obtain ⟨hmem, hpos⟩ := (mem_driveable_iff x segs).mp (hd ▸ hx)
      exact ⟨hpos, ticks_lt_of_mem_sent h.1 hc x hmem⟩
    exact lineInv_beginFrame _ (henabled hst) leaveListening_not_armed_of_rxBusy hidle' hrange hleft
  | sentNothing segs hi hst =>
    exact lineInv_sendNothing _ (henabled hst) leaveListening_not_armed_of_rxBusy hidle' hleft

theorem lineInv_hostStep {s t : State} (hstep : hostStep s = .next t) (hidle : s.txBusy = false) (h : LineInv s) :
    LineInv t := by
  obtain ⟨r, -, rfl⟩ | ⟨c, -, hc⟩ := hostStep_cases hstep
  · exact h
  · exact (exec_effect hc).lineInv hidle h

/-- The sampler and the interrupt service write assembly and buffer only. -/
theorem lineInv_receivePhases {s : State} (lvl : PinId → Level) (h : LineInv s) :
    LineInv (interruptPhase lvl (samplePhase lvl s)) := by
  obtain ⟨hok, hen, has, htx⟩ := h
  exact ⟨by simpa using hok, by apply enabledInv_congr hen <;> simp,
    assemblyInv_interruptPhase lvl (assemblyInv_samplePhase lvl has),
    by apply transmitInv_congr htx <;> simp⟩

/-- One level is remembered per pin (R21, R68). -/
theorem lineInv_rememberPhase {s : State} (lvl : PinId → Level) (h : LineInv s) : LineInv (rememberPhase lvl s) := by
  have ⟨_, ⟨_, _, _, hprev⟩, _, _⟩ := h
  exact lineInv_congr h rfl (fun _ => rfl) (fun _ => rfl) rfl (by simp [hprev]) rfl rfl rfl rfl rfl rfl rfl rfl

/-- Until the frame ends no line state changes; then the one instance that was TRANSMITTING listens (R97). -/
theorem lineInv_transmitPhase {s : State} (h : LineInv s) : LineInv (transmitPhase s) := by
  obtain ⟨hok, hen, has, htx⟩ := h
  have htx' := transmitInv_transmitPhase htx
  obtain ⟨-, heq⟩ | ⟨-, -, heq⟩ | ⟨-, -, g, gs, -, heq⟩ | ⟨hbusy, -, -, heq⟩ := transmitPhase_cases s <;>
    rw [heq] at htx' ⊢
  · exact ⟨hok, hen, has, htx'⟩
  · exact ⟨hok, hen, has, htx'⟩
  · exact ⟨hok, hen, has, htx'⟩
  · have hsender : s.st s.txInst = .transmitting := (htx.1 s.txInst).mpr ⟨hbusy, rfl⟩
    exact lineInv_endOfFrame _ hok hen has (hsender ▸ LineState.noConfusion) fun j hj => ((htx.1 j).mp hj).2

theorem lineInv_tick {s : State} (d : Draw) (h : LineInv s) : LineInv (tick d s) :=
  lineInv_transmitPhase (lineInv_rememberPhase (pinLevel d s) (lineInv_receivePhases (pinLevel d s) h))

/-- Settles O54: a HostStep, which needs an idle transmitter, and a Tick keep the invariant, and so does taking the
input. -/
theorem stepKeepsTheLineInvariant : Obligations.StepKeepsTheLineInvariant := by
  intro s t hstep h
  have hinput : LineInv (dropInput s) := by apply lineInv_congr h <;> simp
  obtain ⟨-, ⟨hidle, -, hhost⟩ | rfl⟩ := step_cases hstep
  · exact lineInv_hostStep hhost (by simpa using hidle) hinput
  · exact lineInv_tick _ hinput

end Sys2Proof.Machine
end

section
/-! The decoder against the bytes it reads (30_encoding.md R47, R48): a command it accepts lies inside them. -/

namespace Sys2Proof

/-- No command is shorter than its command word (R48). -/
theorem Instr.two_le_length (c : Instr) : 2 ≤ c.length := by
  unfold Instr.length
  split <;> omega

theorem formatN_eq_ok {cw : Half} {c d : Instr} (h : formatN cw c = .ok d) : d = c := by
  unfold formatN at h
  split at h <;> cases h
  rfl

theorem formatW_eq_ok {cw : Half} {rest : List Byte} {c : Word → Instr} {d : Instr}
    (h : formatW cw rest c = .ok d) : 4 ≤ rest.length ∧ ∃ w, d = c w := by
  unfold formatW at h
  split at h
  · split at h <;> cases h
    exact ⟨by simp, _, rfl⟩
  · cases h

theorem formatT_eq_ok {cw : Half} {rest : List Byte} {c : List Byte → Instr} {d : Instr}
    (h : formatT cw rest c = .ok d) : ∃ text, text.length ≤ rest.length ∧ d = c text := by
  unfold formatT at h
  split at h <;> cases h
  exact ⟨_, List.length_take_le' .., rfl⟩

/-- A command occupies its word and bytes that are there: none, four, or the text (R47). -/
theorem length_le_of_decodeWord {cw : Half} {rest : List Byte} {c : Instr} (h : decodeWord cw rest = .ok c) :
    c.length ≤ rest.length + 2 := by
  have hword : ∀ {d : Instr}, d.format = .n → formatN cw d = .ok c → c.length ≤ rest.length + 2 := by
    intro d hformat hd
    rw [formatN_eq_ok hd, Instr.length, hformat]
    exact Nat.le_add_left 2 _
  unfold decodeWord at h
  split at h
  case h_2 | h_16 => -- format I: BEGIN_PIN, WRITE
    cases h
    exact Nat.le_add_left 2 _
  case h_9 => -- format W
    obtain ⟨hfour, w, rfl⟩ := formatW_eq_ok h
    exact Nat.add_le_add_right hfour 2
  case h_17 | h_18 => -- format T
    obtain ⟨text, hlen, rfl⟩ := formatT_eq_ok h
    exact (Nat.add_comm 2 text.length).trans_le (Nat.add_le_add_right hlen 2)
  case h_19 => cases h -- reserved
  all_goals exact hword rfl h

theorem length_le_of_decode {bytes : List Byte} {c : Instr} (h : decode bytes = .ok c) :
    c.length ≤ bytes.length := by
  unfold decode at h
  split at h
  · exact length_le_of_decodeWord h
  · cases h

end Sys2Proof
end

section
/-! The host registers (R12, R23, R24, R103): `cp` inside the stream, `res` the last result, a fault that names the command
at `cp`. -/

namespace Sys2Proof.Machine

@[simp] theorem releaseRegistry_cp (i : InstId) (s : State) : (releaseRegistry i s).cp = s.cp := by
  obtain ⟨-, h⟩ | ⟨-, h⟩ := releaseRegistry_cases i s <;> simp [h]

@[simp] theorem releaseRegistry_res (i : InstId) (s : State) : (releaseRegistry i s).res = s.res := by
  obtain ⟨-, h⟩ | ⟨-, h⟩ := releaseRegistry_cases i s <;> simp [h]

@[simp] theorem releaseRegistry_reslog (i : InstId) (s : State) : (releaseRegistry i s).reslog = s.reslog := by
  obtain ⟨-, h⟩ | ⟨-, h⟩ := releaseRegistry_cases i s <;> simp [h]

@[simp] theorem releaseRegistry_fault (i : InstId) (s : State) : (releaseRegistry i s).fault = s.fault := by
  obtain ⟨-, h⟩ | ⟨-, h⟩ := releaseRegistry_cases i s <;> simp [h]

@[simp] theorem releaseRegistry_faultCw (i : InstId) (s : State) : (releaseRegistry i s).faultCw = s.faultCw := by
  obtain ⟨-, h⟩ | ⟨-, h⟩ := releaseRegistry_cases i s <;> simp [h]

@[simp] theorem releaseRegistry_faultCp (i : InstId) (s : State) : (releaseRegistry i s).faultCp = s.faultCp := by
  obtain ⟨-, h⟩ | ⟨-, h⟩ := releaseRegistry_cases i s <;> simp [h]

/-- A command that decodes at `cp` ends inside the stream (R47). -/
theorem cp_add_length_le_of_fetch {s : State} {c : Instr} (hcp : s.cp.toNat ≤ s.stream.length)
    (h : fetch s = .ok c) : s.cp.toNat + c.length ≤ s.stream.length := by
  have hlen : c.length ≤ (s.stream.drop s.cp.toNat).length := length_le_of_decode h
  rw [List.length_drop] at hlen
  omega

/-- The invariant speaks of these registers only. -/
theorem hostInv_congr {s t : State} (h : HostInv s) (hstream : t.stream = s.stream) (hcp : t.cp = s.cp)
    (hbusy : t.txBusy = s.txBusy) (hlen : t.txLen = s.txLen) (hres : t.res = s.res) (hlog : t.reslog = s.reslog)
    (hfault : t.fault = s.fault) (hcw : t.faultCw = s.faultCw) (hfcp : t.faultCp = s.faultCp) : HostInv t := by
  simpa only [HostInv, hstream, hcp, hbusy, hlen, hres, hlog, hfault, hcw, hfcp] using h

/-- A command of an unhalted host that ends inside the stream completes (R53): `cp` does not wrap (log 9). -/
theorem hostInv_retire {s : State} {len : Nat} (w : Word) (hend : s.cp.toNat + len ≤ s.stream.length)
    (hidle : s.txBusy = false) (hrun : s.fault = none) (h : HostInv s) : HostInv (retire len w s) := by
  obtain ⟨⟨hstream, -⟩, -, -, hclear, -⟩ := h
  refine ⟨⟨hstream, ?_⟩, fun hbusy => absurd (hidle.symm.trans hbusy) Bool.false_ne_true, by simp, hclear,
    fun hfault => absurd hrun hfault⟩
  simp only [retire_cp, retire_stream, BitVec.toNat_add, BitVec.toNat_ofNat]
  omega

/-- A fault names the command at `cp` (R103). -/
theorem hostInv_raiseFault {s : State} (k : Cause) (cw : Half) (hidle : s.txBusy = false)
    (hcmd : s.cp.toNat < s.stream.length) (h : HostInv s) : HostInv (raiseFault k cw s) := by
  obtain ⟨hcp, hsend, hres, -, -⟩ := h
  exact ⟨hcp, hsend, hres, fun hnone => absurd hnone (Option.some_ne_none k), fun _ => ⟨rfl, hidle, hcmd⟩⟩

/-- While a frame is sent, `cp` stays at a command that ends inside the stream (R53). -/
theorem hostInv_beginFrame {s : State} {i : InstId} {g : Seg} {gs : List Seg} {len : Nat} (hlen : 2 ≤ len)
    (hend : s.cp.toNat + len ≤ s.stream.length) (hrun : s.fault = none) (h : HostInv s) :
    HostInv (beginFrame i g gs len s) := by
  obtain ⟨hcp, -, hres, hclear, -⟩ := h
  exact ⟨hcp, fun _ => ⟨hlen, hend⟩, hres, hclear, fun hfault => absurd hrun hfault⟩

/-- EndOfFrame is the completion of the command that was sent (R98). -/
theorem hostInv_endOfFrame {s : State} (i : InstId) {len : Nat} (hend : s.cp.toNat + len ≤ s.stream.length)
    (hrun : s.fault = none) (h : HostInv s) : HostInv (endOfFrame i len s) := by
  obtain ⟨hcp, -, hres, hclear, -⟩ := h
  exact hostInv_retire 0 hend rfl hrun
    ⟨hcp, fun hbusy => absurd hbusy Bool.false_ne_true, hres, hclear, fun hfault => absurd hrun hfault⟩

/-- A command that ends inside the stream keeps the host invariant. -/
theorem CommandEffect.hostInv {c : Instr} {s t : State} (he : CommandEffect s c t)
    (hend : s.cp.toNat + c.length ≤ s.stream.length) (hidle : s.txBusy = false) (hrun : s.fault = none)
    (h : HostInv s) : HostInv t := by
  have htwo := c.two_le_length
  have hleft : HostInv (leaveListening c.inst s) := by apply hostInv_congr h <;> simp
  cases he with
  | faulted k => exact hostInv_raiseFault k _ hidle (by omega) h
  | sending segs g gs => exact hostInv_beginFrame htwo (by simpa using hend) (by simpa using hrun) hleft
  | sentNothing =>
    exact hostInv_endOfFrame _ (by simpa using hend) (by simpa using hrun)
      (hostInv_congr hleft rfl rfl rfl rfl rfl rfl rfl rfl rfl)
  | _ =>
    refine hostInv_retire _ (by simpa using hend) (by simpa using hidle) (by simpa using hrun) ?_
    apply hostInv_congr h <;> simp

theorem hostInv_hostStep {s t : State} (hstep : hostStep s = .next t) (hidle : s.txBusy = false)
    (hcmd : s.cp.toNat < s.stream.length) (hrun : s.fault = none) (h : HostInv s) : HostInv t := by
  obtain ⟨r, -, rfl⟩ | ⟨c, hfetch, hc⟩ := hostStep_cases hstep
  · exact hostInv_raiseFault r.cause r.cw hidle hcmd h
  · exact (exec_effect hc).hostInv (cp_add_length_le_of_fetch hcmd.le hfetch) hidle hrun h

/-- The transmit phase writes host registers only where a frame ends (R97). -/
theorem hostInv_transmitPhase {s : State} (hrun : s.fault = none) (h : HostInv s) : HostInv (transmitPhase s) := by
  obtain ⟨-, heq⟩ | ⟨-, -, heq⟩ | ⟨-, -, g, gs, -, heq⟩ | ⟨hbusy, -, -, heq⟩ := transmitPhase_cases s <;>
    rw [heq]
  · exact h
  · exact hostInv_congr h rfl rfl rfl rfl rfl rfl rfl rfl rfl
  · exact hostInv_congr h rfl rfl rfl rfl rfl rfl rfl rfl rfl
  · exact hostInv_endOfFrame _ (h.2.1 hbusy).2 hrun h

/-- The phases before it write none (R68 to R73). -/
theorem hostInv_receivePhases {s : State} (lvl : PinId → Level) (h : HostInv s) :
    HostInv (rememberPhase lvl (interruptPhase lvl (samplePhase lvl s))) := by
  apply hostInv_congr h <;> simp

theorem hostInv_tick {s : State} (d : Draw) (hrun : s.fault = none) (h : HostInv s) : HostInv (tick d s) :=
  hostInv_congr (hostInv_transmitPhase (by simpa using hrun) (hostInv_receivePhases (pinLevel d s) h))
    rfl rfl rfl rfl rfl rfl rfl rfl rfl

/-- Settles O56: a step starts without a recorded fault; a HostStep and a Tick keep the invariant, and so does taking
the input. -/
theorem stepKeepsTheHostInvariant : Obligations.StepKeepsTheHostInvariant := by
  intro s t hstep h
  have hinput : HostInv (dropInput s) := by apply hostInv_congr h <;> simp
  obtain ⟨hrun, ⟨hidle, hcmd, hhost⟩ | rfl⟩ := step_cases hstep
  · exact hostInv_hostStep hhost (by simpa using hidle) (by simpa using hcmd) (by simpa using hrun) hinput
  · exact hostInv_tick _ (by simpa using hrun) hinput

end Sys2Proof.Machine
end

section
/-! The Shared Receive Buffer and the assembly under a whole tick and a whole command (20_memory.md R32, R33,
10_state.md R22): the sampler pushes at most one byte, and a command only drains. -/

namespace Sys2Proof.Machine

/-! ### Push and the sample phase (R72, R73, R79) -/

theorem wf_slots_push {s : State} (v : Byte) (h : Memory.wf s.slots = true) : Memory.wf (push v s).slots = true := by
  by_cases hroom : s.count.val < 75
  · rw [push_room v s hroom]
    exact memWrite_wf s s.head v h
  · rwa [push_full v s hroom]

theorem count_le_push (v : Byte) (s : State) : s.count ≤ (push v s).count := by
  by_cases hroom : s.count.val < 75
  · rw [push_room v s hroom]
    exact Nat.le_succ s.count.val
  · exact (push_full v s hroom).symm ▸ le_rfl

theorem ovf_push {s : State} (v : Byte) (h : s.ovf = true) : (push v s).ovf = true := by
  by_cases hroom : s.count.val < 75
  · rwa [push_room v s hroom]
  · rw [push_full v s hroom]

theorem memRead_push_other {s : State} {k : Fin 75} (v : Byte) (hk : k ≠ s.head) :
    memRead (push v s) k = memRead s k := by
  by_cases hroom : s.count.val < 75
  · rw [push_room v s hroom]
    exact memRead_memWrite_other s s.head k v hk
  · rw [push_full v s hroom]
    rfl

/-- The buffer neither reads nor writes the pattern. -/
theorem push_rxPat_update (v : Byte) (p : BitVec 9) (s : State) :
    push v { s with rxPat := p } = { push v s with rxPat := p } := by
  by_cases hroom : s.count.val < 75
  · rw [push_room v s hroom]
    exact push_room v { s with rxPat := p } hroom
  · rw [push_full v s hroom]
    exact push_full v { s with rxPat := p } hroom

/-- `t` holds the buffer of `u`. -/
abbrev SameBuffer (t u : State) : Prop :=
  t.slots = u.slots ∧ t.head = u.head ∧ t.tail = u.tail ∧ t.count = u.count ∧ t.ovf = u.ovf

/-- All that the sampler does to the buffer: nothing, or one push. -/
theorem samplePhase_sameBuffer (lvl : PinId → Level) (s : State) :
    SameBuffer (samplePhase lvl s) s ∨ ∃ v, SameBuffer (samplePhase lvl s) (push v s) := by
  obtain ⟨heq, -⟩ | ⟨a, -, -, -, heq⟩ := samplePhase_cases lvl s
  · exact .inl (heq.symm ▸ ⟨rfl, rfl, rfl, rfl, rfl⟩)
  · rw [heq]
    obtain ⟨_, hnext⟩ | ⟨-, hninth⟩ := takeSample_cases (lvl (s.pin a)) s
    · exact .inl (hnext.symm ▸ ⟨rfl, rfl, rfl, rfl, rfl⟩)
    · rw [hninth]
      obtain ⟨-, hvalid⟩ | ⟨-, hinvalid⟩ :=
        completeChar_cases { s with rxPat := setSample s.rxPat s.rxN.val (lvl (s.pin a)) }
      · rw [hvalid, push_rxPat_update]
        exact .inr ⟨_, rfl, rfl, rfl, rfl, rfl⟩
      · exact .inl (hinvalid.symm ▸ ⟨rfl, rfl, rfl, rfl, rfl⟩)

/-! ### The tick (R122) -/

/-- The phases after the sampler leave the buffer alone. -/
theorem tick_sameBuffer_samplePhase (d : Draw) (s : State) :
    SameBuffer (tick d s) (samplePhase (pinLevel d s) s) := by
  simp [tick, SameBuffer]

/-- All that a tick does to the buffer: nothing, or one push. -/
theorem tick_sameBuffer (d : Draw) (s : State) :
    SameBuffer (tick d s) s ∨ ∃ v, SameBuffer (tick d s) (push v s) := by
  simpa only [SameBuffer, tick_sameBuffer_samplePhase d s] using samplePhase_sameBuffer (pinLevel d s) s

theorem wf_slots_tick {s : State} (d : Draw) (h : Memory.wf s.slots = true) : Memory.wf (tick d s).slots = true := by
  obtain ⟨hslots, -⟩ | ⟨v, hslots, -⟩ := tick_sameBuffer d s
  · rwa [hslots]
  · rw [hslots]
    exact wf_slots_push v h

theorem count_le_tick (d : Draw) (s : State) : s.count ≤ (tick d s).count := by
  obtain ⟨-, -, -, hcount, -⟩ | ⟨v, -, -, -, hcount, -⟩ := tick_sameBuffer d s
  · exact hcount.ge
  · rw [hcount]
    exact count_le_push v s

theorem ovf_tick {s : State} (d : Draw) (h : s.ovf = true) : (tick d s).ovf = true := by
  obtain ⟨-, -, -, -, hovf⟩ | ⟨v, -, -, -, -, hovf⟩ := tick_sameBuffer d s
  · rwa [hovf]
  · rw [hovf]
    exact ovf_push v h

theorem memRead_tick_other {s : State} {k : Fin 75} (d : Draw) (hk : k ≠ s.head) :
    memRead (tick d s) k = memRead s k := by
  obtain ⟨hslots, -⟩ | ⟨v, hslots, -⟩ := tick_sameBuffer d s
  · rw [memRead, hslots, memRead]
  · rw [memRead, hslots, ← memRead, memRead_push_other v hk]

/-- The one line state the transmit phase may change is the sender's, at the end of its frame (R98). -/
theorem transmitPhase_st (s : State) (i : InstId) :
    (transmitPhase s).st i = s.st i ∨
      s.txBusy = true ∧ i = s.txInst ∧ (transmitPhase s).st i = .listening := by
  obtain ⟨-, heq⟩ | ⟨-, -, heq⟩ | ⟨-, -, g, gs, -, heq⟩ | ⟨hbusy, -, -, heq⟩ := transmitPhase_cases s
  · exact .inl (heq.symm ▸ rfl)
  · exact .inl (heq.symm ▸ rfl)
  · exact .inl (heq.symm ▸ rfl)
  · rw [heq, st_endOfFrame]
    by_cases hi : i = s.txInst
    · exact .inr ⟨hbusy, hi, if_pos hi⟩
    · exact .inl (if_neg hi)

/-- No other phase of a tick writes a line state, and the phases before the transmit phase leave the transmitter. -/
theorem tick_st (d : Draw) (s : State) (i : InstId) :
    (tick d s).st i = s.st i ∨ s.txBusy = true ∧ i = s.txInst ∧ (tick d s).st i = .listening := by
  simpa [tick] using transmitPhase_st
    (rememberPhase (pinLevel d s) (interruptPhase (pinLevel d s) (samplePhase (pinLevel d s) s))) i

/-- Settles O47: the buffer is the sample phase's, the line states are the transmit phase's, and every other field is
read off the phase that writes it. -/
theorem tickFrame : Obligations.TickFrame := by
  intro d s
  obtain ⟨hslots, hhead, -, hcount, hovf⟩ := tick_sameBuffer_samplePhase d s
  refine ⟨?now, ?prev, ?tail, count_le_tick d s, ovf_tick d, fun k => memRead_tick_other d,
    ⟨hslots, hhead, hcount, hovf, ?assembly⟩, tick_cfg d s, ?reg, tick_stream d s, ?rest⟩
  case rest =>
    refine ⟨?_, ?_, ?_, ?_, ?_, ?_, fun i => ⟨?_, ?_, tick_st d s i⟩⟩ <;> simp [tick]
  all_goals simp [tick]

/-! ### The commands (R33) -/

@[simp] theorem releaseRegistry_ovf (i : InstId) (s : State) : (releaseRegistry i s).ovf = s.ovf := by
  obtain ⟨-, h⟩ | ⟨-, h⟩ := releaseRegistry_cases i s <;> simp [h]

@[simp] theorem releaseRegistry_now (i : InstId) (s : State) : (releaseRegistry i s).now = s.now := by
  obtain ⟨-, h⟩ | ⟨-, h⟩ := releaseRegistry_cases i s <;> simp [h]

@[simp] theorem releaseRegistry_rxT0 (i : InstId) (s : State) : (releaseRegistry i s).rxT0 = s.rxT0 := by
  obtain ⟨-, h⟩ | ⟨-, h⟩ := releaseRegistry_cases i s <;> simp [h]

/-- No command writes a slot. -/
theorem CommandEffect.slots {c : Instr} {s t : State} (he : CommandEffect s c t) : t.slots = s.slots := by
  cases he <;> simp

/-- No command writes the clock, the edge detector or the start stamp. -/
theorem CommandEffect.clock {c : Instr} {s t : State} (he : CommandEffect s c t) :
    t.now = s.now ∧ t.prev = s.prev ∧ t.rxT0 = s.rxT0 := by
  cases he <;> simp

/-- Only CLEAR_BUFFER moves `head` and only it and READ write `count`; the flag is at most cleared. -/
theorem CommandEffect.drains {c : Instr} {s t : State} (he : CommandEffect s c t) :
    (t.head = s.head ∨ t.count = 0 ∧ t.tail = 0 ∧ t.head = 0) ∧ t.count ≤ s.count ∧
    (t.ovf = true → s.ovf = true) := by
  cases he with
  | byteRead => exact ⟨.inl rfl, Nat.sub_le s.count.val 1, id⟩
  | cleared => exact ⟨.inr ⟨rfl, rfl, rfl⟩, Nat.zero_le s.count.val, fun h => absurd h Bool.false_ne_true⟩
  | _ => simp

/-- An assembly of `t` is that of `s`, as it was. -/
abbrev BeginsNoAssembly (s t : State) : Prop :=
  t.rxBusy = true → s.rxBusy = true ∧ t.rxN = s.rxN ∧ t.rxPat = s.rxPat

theorem beginsNoAssembly_dropAssembly (i : InstId) (s : State) : BeginsNoAssembly s (dropAssembly i s) := by
  obtain ⟨-, -, heq⟩ | ⟨-, heq⟩ := dropAssembly_cases i s <;> simp [heq, BeginsNoAssembly]

theorem beginsNoAssembly_leaveListening (i : InstId) (s : State) : BeginsNoAssembly s (leaveListening i s) := by
  obtain ⟨-, -, heq⟩ | ⟨-, heq⟩ := leaveListening_cases i s <;> simp [heq, BeginsNoAssembly]

theorem beginsNoAssembly_releaseRegistry (i : InstId) (s : State) : BeginsNoAssembly s (releaseRegistry i s) := by
  obtain ⟨-, heq⟩ | ⟨-, heq⟩ := releaseRegistry_cases i s
  · rw [heq]
    exact beginsNoAssembly_dropAssembly i s
  · rw [heq]
    exact fun hbusy => ⟨hbusy, rfl, rfl⟩

/-- A command drops an assembly (END, FORCE_HOLD, a transmission) or keeps it (R58). -/
theorem CommandEffect.beginsNoAssembly {c : Instr} {s t : State} (he : CommandEffect s c t) :
    BeginsNoAssembly s t := by
  cases he with
  | disabled => exact beginsNoAssembly_releaseRegistry c.inst s
  | held | sending | sentNothing => exact beginsNoAssembly_leaveListening c.inst s
  | _ => exact fun hbusy => ⟨hbusy, rfl, rfl⟩

/-- Settles O46, from what the effects of commands have in common. -/
theorem commandsOnlyDrainTheBuffer : Obligations.CommandsOnlyDrainTheBuffer := by
  intro c s t h
  have he := exec_effect h
  obtain ⟨hhead, hcount, hovf⟩ := he.drains
  obtain ⟨hnow, hprev, ht0⟩ := he.clock
  obtain ⟨hcfg, hstream⟩ := he.cfg_stream
  exact ⟨he.slots, hhead, hcount, hovf, hnow, hprev, ht0, hcfg, hstream, he.beginsNoAssembly⟩

/-! ### The canonical form of the slots (R32) -/

theorem hostStep_slots {s t : State} (h : hostStep s = .next t) : t.slots = s.slots := by
  obtain ⟨r, -, rfl⟩ | ⟨c, -, hc⟩ := hostStep_cases h
  · exact raiseFault_slots ..
  · exact (exec_effect hc).slots

/-- Settles O52: a HostStep writes no slot, and the one push of a tick writes below CAP, in order. -/
theorem stepKeepsTheSlotsCanonical : Obligations.StepKeepsTheSlotsCanonical := by
  intro s t hstep h
  have hinput : Memory.wf (dropInput s).slots = true := by rwa [dropInput_slots]
  obtain ⟨-, ⟨-, -, hhost⟩ | rfl⟩ := step_cases hstep
  · rwa [hostStep_slots hhost]
  · exact wf_slots_tick _ hinput

end Sys2Proof.Machine
end

section
/-! The level of a net (20_memory.md R41): which values stand on it, and what they resolve to. -/

namespace Sys2Proof.Machine

/-- The instances' side of `vals(n)`. -/
theorem mem_drivers_iff (s : State) (n : Nat) (v : Level) :
    v ∈ drivers s n ↔ ∃ i : InstId, i.val < s.cfg.nInst ∧ netOf s.cfg (s.pin i) = n ∧ drv s i = some v := by
  simp [drivers, List.mem_filterMap, mem_allInst, instExists_iff, and_assoc]

theorem mem_netVals_iff (d : Draw) (s : State) (n : Nat) (v : Level) :
    v ∈ netVals d s n ↔
      (∃ i : InstId, i.val < s.cfg.nInst ∧ netOf s.cfg (s.pin i) = n ∧ drv s i = some v) ∨
        extDrive d n = .drive v := by
  rw [netVals, List.mem_append, mem_drivers_iff]
  refine or_congr_right ?_
  cases extDrive d n <;> simp [eq_comm]

/-- A net with one level on it has that level. -/
theorem resolve_of_agree {vals : List Level} {v : Level} (pull contention : Level) (hv : v ∈ vals)
    (hagree : ∀ w ∈ vals, w = v) : resolve pull contention vals = v := by
  cases vals with
  | nil => exact absurd hv List.not_mem_nil
  | cons w ws =>
    obtain ⟨rfl, hws⟩ := List.forall_mem_cons.mp hagree
    exact if_pos (by simpa using hws)

/-- A net with two levels on it is in contention, whichever stands first. -/
theorem resolve_of_mem_of_ne {vals : List Level} {v w : Level} (pull contention : Level) (hv : v ∈ vals)
    (hw : w ∈ vals) (hne : v ≠ w) : resolve pull contention vals = contention := by
  cases vals with
  | nil => exact absurd hv List.not_mem_nil
  | cons x xs =>
    refine if_neg fun hall => hne ?_
    have hagree : ∀ y ∈ x :: xs, y = x := by simpa using hall
    rw [hagree v hv, hagree w hw]

/-- The draw settles a contention only: it is not one of the values on the net. -/
theorem pinLevel_contention (d : Draw) (s : State) (p : PinId) (v : Level) :
    pinLevel { d with contention := (netOf s.cfg p, v) :: d.contention } s p =
      resolve s.cfg.pullLevel v (netVals d s (netOf s.cfg p)) := by
  have hdraw : contentionLevel { d with contention := (netOf s.cfg p, v) :: d.contention } (netOf s.cfg p) = v := by
    simp [contentionLevel]
  rw [pinLevel, netLevel, hdraw]
  rfl

/-- Settles O44: no value, one of the two levels, or both of them stand on the net of the pin. -/
theorem netLevelsResolve : Obligations.NetLevelsResolve := by
  intro d s p n driven
  have hdriven : ∀ v, driven v ↔ v ∈ netVals d s n := fun v => (mem_netVals_iff d s n v).symm
  simp only [hdriven]
  refine ⟨fun ⟨hmark, hspace⟩ => ?_, fun ⟨hmark, hspace⟩ => ?_, fun ⟨hspace, hmark⟩ => ?_,
    fun ⟨hmark, hspace⟩ v => ?_⟩
  · have hnone : netVals d s n = [] := List.eq_nil_iff_forall_not_mem.mpr fun
      | .mark => hmark
      | .space => hspace
    rw [pinLevel, netLevel, hnone, resolve]
  · exact resolve_of_agree _ _ hmark fun
      | .mark, _ => rfl
      | .space, hw => absurd hw hspace
  · exact resolve_of_agree _ _ hspace fun
      | .mark, hw => absurd hw hmark
      | .space, _ => rfl
  · exact (pinLevel_contention d s p v).trans (resolve_of_mem_of_ne _ _ hmark hspace Level.noConfusion)

end Sys2Proof.Machine
end

section
/-! The fields of a command word (30_encoding.md R48, R50): the decoder's three fields are the encoder's, and they are all
of the word. -/

namespace Sys2Proof

theorem opField_toNat (cw : Half) : (opField cw).toNat = cw.toNat / 2 ^ 11 := by
  have := cw.isLt
  rw [opField, BitVec.extractLsb'_toNat, Nat.shiftRight_eq_div_pow]
  omega

theorem instField_val (cw : Half) : (instField cw).val = cw.toNat / 2 ^ 8 % 8 := by
  simp [instField, Nat.shiftRight_eq_div_pow]

theorem immField_toNat (cw : Half) : (immField cw).toNat = cw.toNat % 2 ^ 8 := by
  simp [immField]

@[simp] theorem opField_commandWord (op : BitVec 5) (i : InstId) (m : Byte) : opField (commandWord op i m) = op := by
  apply BitVec.eq_of_toNat_eq
  rw [opField_toNat, commandWord_toNat]
  omega

@[simp] theorem instField_commandWord (op : BitVec 5) (i : InstId) (m : Byte) :
    instField (commandWord op i m) = i := by
  apply Fin.ext
  rw [instField_val, commandWord_toNat]
  omega

@[simp] theorem immField_commandWord (op : BitVec 5) (i : InstId) (m : Byte) :
    immField (commandWord op i m) = m := by
  apply BitVec.eq_of_toNat_eq
  rw [immField_toNat, commandWord_toNat]
  omega

theorem commandWord_fields (cw : Half) : commandWord (opField cw) (instField cw) (immField cw) = cw := by
  apply BitVec.eq_of_toNat_eq
  rw [commandWord_toNat, opField_toNat, instField_val, immField_toNat]
  omega

@[simp] theorem opField_cw (c : Instr) : opField c.cw = c.opcode := opField_commandWord ..
@[simp] theorem instField_cw (c : Instr) : instField c.cw = c.inst := instField_commandWord ..
@[simp] theorem immField_cw (c : Instr) : immField c.cw = c.imm := immField_commandWord ..

/-- A command with the fields of a word is that word's command. -/
theorem Instr.cw_eq_of_fields {c : Instr} {cw : Half} (hop : c.opcode = opField cw) (hinst : c.inst = instField cw)
    (himm : c.imm = immField cw) : c.cw = cw := by
  rw [Instr.cw, hop, hinst, himm, commandWord_fields]

/-- R50's formula, bit by bit. -/
theorem commandWord_eq_or (op : BitVec 5) (i : InstId) (m : Byte) :
    commandWord op i m = (op.setWidth 16 <<< 11) ||| (BitVec.ofNat 16 i.val <<< 8) ||| m.setWidth 16 := by
  have hinst : BitVec.ofNat 16 i.val = (BitVec.ofNat 3 i.val).setWidth 16 := by
    apply BitVec.eq_of_toNat_eq
    simp only [BitVec.toNat_ofNat, BitVec.toNat_setWidth]
    omega
  rw [hinst, commandWord]
  generalize BitVec.ofNat 3 i.val = j
  ext k hk
  simp only [BitVec.getElem_append, BitVec.getElem_or, BitVec.getElem_shiftLeft, BitVec.getElem_setWidth]
  grind

/-- Settles O2: the word's formula, its three fields, and its bytes put together again. -/
theorem commandWordLayout : Obligations.CommandWordLayout := fun c =>
  ⟨commandWord_eq_or .., opField_cw c, instField_cw c, immField_cw c, _, _, rfl, half_of_bytes c.cw⟩

end Sys2Proof
end

section
/-! Decoder and encoder (30_encoding.md R47, R48, R50): `decodeWord` accepts a command exactly where the command's own word
and operand bytes stand. -/

namespace Sys2Proof

/-! ### The formats (R48) -/

theorem Instr.operands_of_formatN {c : Instr} (h : c.format = .n) : c.imm = 0 ∧ c.operandBytes = [] ∧ c.text = [] := by
  cases c <;> cases h <;> exact ⟨rfl, rfl, rfl⟩

theorem Instr.operands_of_formatI {c : Instr} (h : c.format = .i) : c.operandBytes = [] ∧ c.text = [] := by
  cases c <;> cases h <;> exact ⟨rfl, rfl⟩

theorem formatN_eq_ok_iff {cw : Half} {c d : Instr} : formatN cw c = .ok d ↔ immField cw = 0 ∧ c = d := by
  unfold formatN
  split
  · next himm => simp [himm]
  · next himm => exact iff_of_false nofun fun h => himm h.1

theorem formatW_eq_ok_iff {cw : Half} {rest : List Byte} {c : Word → Instr} {d : Instr} :
    formatW cw rest c = .ok d ↔ immField cw = 0 ∧ ∃ w tail, rest = wordBytes w ++ tail ∧ c w = d := by
  constructor
  · intro h
    unfold formatW at h
    split at h
    · next b0 b1 b2 b3 tail =>
      split at h <;> cases h
      next himm => exact ⟨himm, word b0 b1 b2 b3, tail, by rw [bytes_of_word]; rfl, rfl⟩
    · cases h
  · rintro ⟨himm, w, tail, rfl, rfl⟩
    simp [formatW, wordBytes, himm, word_of_bytes]

theorem formatT_eq_ok_iff {cw : Half} {rest : List Byte} {c : List Byte → Instr} {d : Instr} :
    formatT cw rest c = .ok d ↔
      ∃ text tail, rest = text ++ tail ∧ text.length = (immField cw).toNat ∧ c text = d := by
  constructor
  · intro h
    unfold formatT at h
    split at h <;> cases h
    next hlen =>
      exact ⟨_, _, (List.take_append_drop ..).symm, List.length_take_of_le (Nat.le_of_not_lt hlen), rfl⟩
  · rintro ⟨text, tail, rfl, hlen, rfl⟩
    simp [formatT, ← hlen]

/-- LEN of a text that fits it (R48). -/
theorem toNat_ofNat_length {text : List Byte} (h : text.length ≤ 255) :
    (BitVec.ofNat 8 text.length).toNat = text.length :=
  (BitVec.toNat_ofNat ..).trans (Nat.mod_eq_of_lt (by omega))

/-! ### The opcode map (R50) -/

/-- What `decodeWord` answers: a reserved OP is refused, and every row of the table reads its format, with the row's OP
and the word's INST. -/
inductive DecodeRow (cw : Half) (rest : List Byte) : Except Reject Instr → Prop where
  | reserved (hop : (opField cw).toNat = 0 ∨ 0x13 ≤ (opField cw).toNat) : DecodeRow cw rest (.error ⟨.opcode, cw⟩)
  | formatN (c : Instr) (hf : c.format = .n) (hop : c.opcode = opField cw) (hinst : c.inst = instField cw) :
      DecodeRow cw rest (formatN cw c)
  | formatI (c : Instr) (hf : c.format = .i) (hop : c.opcode = opField cw) (hinst : c.inst = instField cw)
      (himm : c.imm = immField cw) : DecodeRow cw rest (.ok c)
  | formatW (hop : 0x09 = opField cw) : DecodeRow cw rest (formatW cw rest (.setTimeout (instField cw)))
  | formatT (c : List Byte → Instr) (hc : 0x11 = opField cw ∧ c = .sendCommand (instField cw) ∨
      0x12 = opField cw ∧ c = .sendResponse (instField cw)) : DecodeRow cw rest (formatT cw rest c)

theorem decodeWord_row (cw : Half) (rest : List Byte) : DecodeRow cw rest (decodeWord cw rest) := by
  have hfield : ∀ op : BitVec 5, (opField cw).toNat = op.toNat → op = opField cw := fun _ h =>
    (BitVec.eq_of_toNat_eq h).symm
  unfold decodeWord
  split
  case h_2 h | h_16 h => exact .formatI _ rfl (hfield _ h) rfl rfl
  case h_9 h => exact .formatW (hfield _ h)
  case h_17 h => exact .formatT _ (.inl ⟨hfield _ h, rfl⟩)
  case h_18 h => exact .formatT _ (.inr ⟨hfield _ h, rfl⟩)
  case h_19 => exact .reserved (by grind)
  all_goals next h => exact .formatN _ rfl (hfield _ h) rfl

theorem decodeWord_cw_setTimeout (i : InstId) (v : Word) (rest : List Byte) :
    decodeWord (Instr.setTimeout i v).cw rest = formatW (Instr.setTimeout i v).cw rest (.setTimeout i) := by
  simp [decodeWord, Instr.opcode, Instr.inst]

theorem decodeWord_cw_sendCommand (i : InstId) (text rest : List Byte) :
    decodeWord (Instr.sendCommand i text).cw rest = formatT (Instr.sendCommand i text).cw rest (.sendCommand i) := by
  simp [decodeWord, Instr.opcode, Instr.inst]

theorem decodeWord_cw_sendResponse (i : InstId) (text rest : List Byte) :
    decodeWord (Instr.sendResponse i text).cw rest =
      formatT (Instr.sendResponse i text).cw rest (.sendResponse i) := by
  simp [decodeWord, Instr.opcode, Instr.inst]

/-- The word of a command selects its row, and its operands pass the row's checks. -/
theorem decodeWord_cw {c : Instr} (h : c.encodable) (tail : List Byte) :
    decodeWord c.cw (c.operandBytes ++ tail) = .ok c := by
  have himm := immField_cw c
  cases c with
  | setTimeout i v =>
    exact (decodeWord_cw_setTimeout ..).trans (formatW_eq_ok_iff.mpr ⟨himm, v, tail, rfl, rfl⟩)
  | sendCommand i text =>
    have hlen : text.length = (immField (Instr.sendCommand i text).cw).toNat := himm ▸ (toNat_ofNat_length h).symm
    exact (decodeWord_cw_sendCommand ..).trans (formatT_eq_ok_iff.mpr ⟨text, tail, rfl, hlen, rfl⟩)
  | sendResponse i text =>
    have hlen : text.length = (immField (Instr.sendResponse i text).cw).toNat := himm ▸ (toNat_ofNat_length h).symm
    exact (decodeWord_cw_sendResponse ..).trans (formatT_eq_ok_iff.mpr ⟨text, tail, rfl, hlen, rfl⟩)
  | _ => simp [decodeWord, Instr.opcode, Instr.inst, Instr.imm, formatN]

theorem DecodeRow.eq_ok {cw : Half} {rest : List Byte} {r : Except Reject Instr} {c : Instr}
    (hrow : DecodeRow cw rest r) (h : r = .ok c) :
    c.encodable ∧ c.cw = cw ∧ ∃ tail, rest = c.operandBytes ++ tail := by
  cases hrow with
  | reserved => cases h
  | formatN d hf hop hinst =>
    obtain ⟨himm, rfl⟩ := formatN_eq_ok_iff.mp h
    obtain ⟨hzero, hnil, htext⟩ := d.operands_of_formatN hf
    exact ⟨by simp [htext], d.cw_eq_of_fields hop hinst (hzero.trans himm.symm), rest, by simp [hnil]⟩
  | formatI d hf hop hinst himm =>
    cases h
    obtain ⟨hnil, htext⟩ := c.operands_of_formatI hf
    exact ⟨by simp [htext], c.cw_eq_of_fields hop hinst himm, rest, by simp [hnil]⟩
  | formatW hop =>
    obtain ⟨himm, w, tail, hrest, rfl⟩ := formatW_eq_ok_iff.mp h
    exact ⟨Nat.zero_le _, Instr.cw_eq_of_fields hop rfl himm.symm, tail, hrest⟩
  | formatT mk hmk =>
    obtain ⟨text, tail, hrest, hlen, rfl⟩ := formatT_eq_ok_iff.mp h
    have himm : BitVec.ofNat 8 text.length = immField cw := by rw [hlen, BitVec.ofNat_toNat, BitVec.setWidth_eq]
    have hfits : text.length ≤ 255 := by have := (immField cw).isLt; omega
    obtain ⟨hop, rfl⟩ | ⟨hop, rfl⟩ := hmk
    · exact ⟨hfits, Instr.cw_eq_of_fields hop rfl himm, tail, hrest⟩
    · exact ⟨hfits, Instr.cw_eq_of_fields hop rfl himm, tail, hrest⟩

/-- The decoder accepts a command exactly where its word and its operand bytes stand. -/
theorem decodeWord_eq_ok_iff {cw : Half} {rest : List Byte} {c : Instr} :
    decodeWord cw rest = .ok c ↔ c.encodable ∧ c.cw = cw ∧ ∃ tail, rest = c.operandBytes ++ tail :=
  ⟨(decodeWord_row cw rest).eq_ok, fun ⟨henc, hcw, _, hrest⟩ => hcw ▸ hrest ▸ decodeWord_cw henc _⟩

/-! ### Whole commands (R47) -/

theorem encode_half (c : Instr) {b0 b1 : Byte} (h : c.cw = half b0 b1) : encode c = b0 :: b1 :: c.operandBytes := by
  obtain ⟨hlow, hhigh⟩ := bytes_of_half b0 b1
  simp [encode, halfBytes, h, hlow, hhigh]

/-- Decoder and encoder agree: the bytes that decode to a command are those that begin with its encoding. -/
theorem decode_eq_ok_iff {bytes : List Byte} {c : Instr} :
    decode bytes = .ok c ↔ c.encodable ∧ ∃ tail, bytes = encode c ++ tail := by
  constructor
  · intro h
    unfold decode at h
    split at h
    · obtain ⟨henc, hcw, tail, rfl⟩ := decodeWord_eq_ok_iff.mp h
      exact ⟨henc, tail, by rw [encode_half c hcw]; rfl⟩
    · cases h
  · rintro ⟨henc, tail, rfl⟩
    exact decodeWord_eq_ok_iff.mpr ⟨henc, (half_of_bytes c.cw).symm, tail, rfl⟩

/-- A command takes as many bytes as its format says (R48). -/
theorem length_encode (c : Instr) : (encode c).length = c.length :=
  calc (encode c).length = 2 + c.operandBytes.length := List.length_append
    _ = c.length := by cases c <;> rfl

/-- Settles O3: the direction of `decode_eq_ok_iff` that reads an encoding. -/
theorem decodeInvertsEncode : Obligations.DecodeInvertsEncode := fun _ rest henc =>
  decode_eq_ok_iff.mpr ⟨henc, rest, rfl⟩

/-- Settles O4: the other direction of `decode_eq_ok_iff`. -/
theorem decodedBytesAreTheEncoding : Obligations.DecodedBytesAreTheEncoding := fun _ c h =>
  have ⟨henc, hbytes⟩ := decode_eq_ok_iff.mp h
  ⟨henc, length_encode c, hbytes⟩

/-- Settles O1, by running the decoder on each row's bytes. -/
theorem tableRowsDecode : Obligations.TableRowsDecode := by
  unfold Obligations.TableRowsDecode
  decide

end Sys2Proof
end

section
/-! Illegal encodings (30_encoding.md R51), in the order of 60_exceptions.md R104: the decoder's checks, and the last one,
INST, which every command makes before its own rule. -/

namespace Sys2Proof

/-! ### What each check asks -/

abbrev ReservedOp (cw : Half) : Prop := (opField cw).toNat = 0x00 ∨ 0x13 ≤ (opField cw).toNat

/-- The stream ends inside a command of format W or T. -/
abbrev TooShort (cw : Half) (rest : List Byte) : Prop :=
  ((opField cw).toNat = 0x09 ∧ rest.length < 4) ∨
    (((opField cw).toNat = 0x11 ∨ (opField cw).toNat = 0x12) ∧ rest.length < (immField cw).toNat)

/-- IMM8 is not 0 in format N or W. -/
abbrev NonzeroField (cw : Half) : Prop :=
  (opField cw).toNat ≠ 0x02 ∧ (opField cw).toNat ≤ 0x0F ∧ (immField cw).toNat ≠ 0

theorem Instr.opcode_of_formatN {c : Instr} (h : c.format = .n) :
    0x00 < c.opcode.toNat ∧ c.opcode.toNat ≤ 0x0F ∧ c.opcode.toNat ≠ 0x02 ∧ c.opcode.toNat ≠ 0x09 := by
  cases c <;> cases h <;> simp [Instr.opcode]

theorem Instr.opcode_of_formatI {c : Instr} (h : c.format = .i) :
    c.opcode.toNat = 0x02 ∨ c.opcode.toNat = 0x10 := by
  cases c <;> cases h <;> simp [Instr.opcode]

theorem immField_eq_zero_iff (cw : Half) : immField cw = 0 ↔ (immField cw).toNat = 0 := BitVec.toNat_eq

/-! ### The formats -/

theorem formatN_of_imm_ne_zero {cw : Half} (c : Instr) (h : immField cw ≠ 0) :
    formatN cw c = .error ⟨.field, cw⟩ := if_neg h

theorem formatW_of_length_lt {cw : Half} {rest : List Byte} (c : Word → Instr) (h : rest.length < 4) :
    formatW cw rest c = .error ⟨.trunc, cw⟩ := by
  unfold formatW
  split
  · simp only [List.length_cons] at h
    omega
  · rfl

theorem formatW_of_length_ge (cw : Half) (c : Word → Instr) : ∀ {rest : List Byte}, 4 ≤ rest.length →
    ∃ w, formatW cw rest c = if immField cw = 0 then .ok (c w) else .error ⟨.field, cw⟩
  | b0 :: b1 :: b2 :: b3 :: _, _ => ⟨word b0 b1 b2 b3, rfl⟩
  | [], h | [_], h | [_, _], h | [_, _, _], h => absurd h (by simp)

theorem formatT_of_length_lt {cw : Half} {rest : List Byte} (c : List Byte → Instr)
    (h : rest.length < (immField cw).toNat) : formatT cw rest c = .error ⟨.trunc, cw⟩ := if_pos h

theorem formatT_of_length_ge {cw : Half} {rest : List Byte} (c : List Byte → Instr)
    (h : ¬rest.length < (immField cw).toNat) : ∃ d, formatT cw rest c = .ok d := ⟨_, if_neg h⟩

/-! ### The decoder -/

/-- The checks in order: each refuses a word that passes those before it, and a word that passes all is a command. -/
theorem decodeWord_checks (cw : Half) (rest : List Byte) :
    (ReservedOp cw → decodeWord cw rest = .error ⟨.opcode, cw⟩) ∧
    (¬ReservedOp cw ∧ TooShort cw rest → decodeWord cw rest = .error ⟨.trunc, cw⟩) ∧
    (¬ReservedOp cw ∧ ¬TooShort cw rest ∧ NonzeroField cw → decodeWord cw rest = .error ⟨.field, cw⟩) ∧
    (¬ReservedOp cw ∧ ¬TooShort cw rest ∧ ¬NonzeroField cw → ∃ c, decodeWord cw rest = .ok c) := by
  have hrow := decodeWord_row cw rest
  generalize decodeWord cw rest = r at hrow ⊢
  cases hrow with
  | reserved hop => simp [ReservedOp, hop]
  | formatN c hf hop =>
    have hrange := hop ▸ c.opcode_of_formatN hf
    have hreserved : ¬ReservedOp cw := by omega
    have hshort : ¬TooShort cw rest := by omega
    have hfield : NonzeroField cw ↔ immField cw ≠ 0 := by rw [Ne, immField_eq_zero_iff]; omega
    exact ⟨(absurd · hreserved), fun ⟨_, h⟩ => absurd h hshort,
      fun ⟨_, _, h⟩ => formatN_of_imm_ne_zero c (hfield.mp h),
      fun ⟨_, _, h⟩ => ⟨c, formatN_eq_ok_iff.mpr ⟨Decidable.not_not.mp (hfield.not.mp h), rfl⟩⟩⟩
  | formatI c hf hop =>
    have hrange := hop ▸ c.opcode_of_formatI hf
    exact ⟨by omega, by omega, by omega, fun _ => ⟨c, rfl⟩⟩
  | formatW hop =>
    have hop : (opField cw).toNat = 0x09 := congrArg BitVec.toNat hop.symm
    have hfield : NonzeroField cw ↔ immField cw ≠ 0 := by rw [Ne, immField_eq_zero_iff]; omega
    refine ⟨by omega, fun _ => formatW_of_length_lt _ (by omega), fun ⟨_, _, h⟩ => ?_, fun ⟨_, _, h⟩ => ?_⟩ <;>
      obtain ⟨w, hw⟩ := formatW_of_length_ge cw (.setTimeout (instField cw)) (rest := rest) (by omega)
    · exact hw.trans (if_neg (hfield.mp h))
    · exact ⟨_, hw.trans (if_pos (Decidable.not_not.mp (hfield.not.mp h)))⟩
  | formatT mk hmk =>
    have hop : (opField cw).toNat = 0x11 ∨ (opField cw).toNat = 0x12 := by
      obtain ⟨hop, -⟩ | ⟨hop, -⟩ := hmk
      · exact .inl (congrArg BitVec.toNat hop.symm)
      · exact .inr (congrArg BitVec.toNat hop.symm)
    exact ⟨by omega, fun _ => formatT_of_length_lt mk (by omega), by omega,
      fun _ => formatT_of_length_ge mk (by omega)⟩

theorem immField_half (b0 b1 : Byte) : immField (half b0 b1) = b0 := (bytes_of_half b0 b1).1

theorem instField_half (b0 b1 : Byte) : (instField (half b0 b1)).val = b1.toNat % 8 := by
  have hhigh : (half b0 b1).toNat / 2 ^ 8 % 2 ^ 8 = b1.toNat := by
    simpa [Nat.shiftRight_eq_div_pow] using congrArg BitVec.toNat (bytes_of_half b0 b1).2
  rw [instField_val]
  omega

end Sys2Proof

namespace Sys2Proof.Machine

/-! ### The command's own check, and the HostStep -/

theorem onInstance_of_exists {s : State} {i : InstId} (cw : Half) (body : Result) (h : instExists s i = true) :
    onInstance i cw s body = body := if_pos h

theorem onInstance_of_absent {s : State} {i : InstId} (cw : Half) (body : Result) (h : s.cfg.nInst ≤ i.val) :
    onInstance i cw s body = raise .inst cw s :=
  if_neg ((instExists_iff s i).not.mpr (Nat.not_lt.mpr h))

/-- Every command's meaning stands behind the check of INST (R51). -/
theorem exec_eq_onInstance (c : Instr) (s : State) : ∃ body, exec c s = onInstance c.inst c.cw s body := by
  cases c <;> exact ⟨_, rfl⟩

/-- Settles O11: the check stands in front of every command's own rule. -/
theorem absentInstanceFaults : Obligations.AbsentInstanceFaults := fun c s h =>
  have ⟨body, hbody⟩ := exec_eq_onInstance c s
  hbody.trans (onInstance_of_absent c.cw body h)

theorem hostStep_of_decode_error {s : State} {r : Reject} (h : decode (s.stream.drop s.cp.toNat) = .error r) :
    hostStep s = raise r.cause r.cw s := by
  simp [hostStep, fetch, fetchBytes, h]

theorem hostStep_of_decode_ok {s : State} {c : Instr} (h : decode (s.stream.drop s.cp.toNat) = .ok c) :
    hostStep s = exec c s := by
  simp [hostStep, fetch, fetchBytes, h]

/-- Settles O5: the decoder's checks in their order, and the check of INST on the command they leave. -/
theorem illegalEncodingsFault : Obligations.IllegalEncodingsFault := by
  intro s
  refine ⟨fun b0 hbytes => ?_, ?_⟩
  · have hdecode : decode (s.stream.drop s.cp.toNat) = .error ⟨.trunc, 0⟩ := by rw [hbytes]; rfl
    exact hostStep_of_decode_error hdecode
  · intro b0 b1 rest hbytes cw op imm short badField reserved
    have hdecode : decode (s.stream.drop s.cp.toNat) = decodeWord cw rest := by rw [hbytes]; rfl
    have hop : (opField cw).toNat = op := opField_toNat cw
    have himm : (immField cw).toNat = imm := congrArg BitVec.toNat (immField_half b0 b1)
    have hchecks := decodeWord_checks cw rest
    simp only [ReservedOp, TooShort, NonzeroField, hop, himm] at hchecks
    obtain ⟨hopcode, htrunc, hfield, hok⟩ := hchecks
    have hfault : ∀ k, decodeWord cw rest = .error ⟨k, cw⟩ →
        hostStep s = .next { s with fault := some k, faultCw := cw, faultCp := s.cp } := fun _ h =>
      hostStep_of_decode_error (hdecode.trans h)
    refine ⟨fun h => hfault _ (hopcode h), fun h => hfault _ (htrunc h), fun h => hfault _ (hfield h),
      fun ⟨hr, hs, hb, habsent⟩ => ?_⟩
    obtain ⟨c, hc⟩ := hok ⟨hr, hs, hb⟩
    obtain ⟨-, hcw, -⟩ := decodeWord_eq_ok_iff.mp hc
    have hinst : c.inst.val = b1.toNat % 8 := by
      rw [← instField_half b0 b1, ← instField_cw c, hcw]
      rfl
    rw [hostStep_of_decode_ok (hdecode.trans hc), absentInstanceFaults c s (hinst.symm ▸ habsent), hcw]

end Sys2Proof.Machine
end

section
/-! Completion (30_encoding.md R53), and the boot sequence INIT (R55). -/

namespace Sys2Proof.Machine

theorem opcode_of_transmit {c : Instr} {s : State} {segs : List Seg}
    (hc : (∃ b, c = .write c.inst b ∧ segs = charSegs s.cfg.bitTicks b) ∨
      (∃ t, c = .sendCommand c.inst t ∧ segs = commandSegs s.cfg t) ∨
      (∃ t, c = .sendResponse c.inst t ∧ segs = responseSegs s.cfg t)) : 0x10 ≤ c.opcode.toNat := by
  obtain ⟨_, h, -⟩ | ⟨_, h, -⟩ | ⟨_, h, -⟩ := hc <;> rw [h] <;> simp [Instr.opcode]

/-- A command faults, completes, or is a transmit command now in progress (R53). -/
theorem CommandEffect.completes {c : Instr} {s t : State} (he : CommandEffect s c t) (hrun : t.fault = none) :
    (t.reslog = s.reslog ++ [t.res] ∧ t.cp = s.cp + BitVec.ofNat 32 c.length) ∨
    (0x10 ≤ c.opcode.toNat ∧ t.txBusy = true ∧ t.txInst = c.inst ∧ t.txLen = c.length ∧
      t.res = s.res ∧ t.reslog = s.reslog ∧ t.cp = s.cp) := by
  cases he with
  | faulted k => cases hrun
  | sending segs g gs hi hst hd hc =>
    right
    exact ⟨opcode_of_transmit hc, by simp⟩
  | _ =>
    left
    simp

/-- Settles O12, from the effects a command can have. -/
theorem completionWritesResultAndPointer : Obligations.CompletionWritesResultAndPointer := fun _ _ _ h _ hrun =>
  (exec_effect h).completes hrun

/-! ### The three commands of INIT (R61, R86, R64) -/

theorem exec_beginPin_of_free {s : State} {i : InstId} {p : PinId} (hi : instExists s i = true)
    (hst : s.st i = .disabled) (hp : pinExists s p = true) (hfree : pinInUse s i p = false) :
    exec (.beginPin i p) s = .next (retire 2 0 ((s.setPin i p).setSt i .enabled)) := by
  simp [exec, execBeginPin, onInstance_of_exists _ _ hi, hst, hp, hfree, complete]

theorem exec_setActive_of_idle {s : State} {i : InstId} (hi : instExists s i = true) (hst : s.st i ≠ .disabled)
    (htx : s.txBusy = false) (hreg : s.reg ≠ some i) (hrx : s.rxBusy = false) :
    exec (.setActive i) s = .next (retire 2 1 { s with reg := some i }) := by
  simp [exec, execSetActive, onInstance_of_exists _ _ hi, hst, htx, hreg, hrx, complete]

theorem exec_forceListen_of_enabled {s : State} {i : InstId} (hi : instExists s i = true)
    (hst : s.st i ≠ .disabled) :
    exec (.forceListen i) s = .next (retire 2 0 (s.setSt i .listening)) := by
  simp [exec, execForceListen, onInstance_of_exists _ _ hi, hst, complete]

/-- Settles O49: none of the three commands' checks fails, and each leaves what the next one asks. -/
theorem initArmsTheInstance : Obligations.InitArmsTheInstance := by
  intro i p s hi hp hst hreg htx hrx hfree
  have hexists : ∀ t : State, t.cfg = s.cfg → instExists t i = true := fun t hcfg =>
    (instExists_iff t i).mpr (hcfg ▸ hi)
  have hunused : pinInUse s i p = false :=
    Bool.eq_false_iff.mpr fun h =>
      have ⟨j, _, hj, hjst, hjpin⟩ := (pinInUse_iff s i p).mp h
      hfree j hj hjst hjpin
  refine ⟨_, _, _, exec_beginPin_of_free (hexists s rfl) hst ((pinExists_iff s p).mpr hp) hunused,
    exec_setActive_of_idle (hexists _ rfl) (by simp) htx hreg hrx,
    exec_forceListen_of_enabled (hexists _ rfl) (by simp [State.st]), rfl, ?_, ?_, ?_, rfl⟩
  · simp [armed_iff]
  · simp [State.pin]
  · simp

end Sys2Proof.Machine
end

section
/-! The commands of the Line-State Machine (40_line_state.md R60 to R64): their bytes, and what each does in each case
of its own checks. -/

namespace Sys2Proof

/-- R48, R35: a command word's bytes are IMM8, and OP above INST. -/
theorem halfBytes_commandWord (op : BitVec 5) (i : InstId) (m : Byte) :
    halfBytes (commandWord op i m) = [m, (op.setWidth 8 <<< 3) ||| BitVec.ofNat 8 i.val] := by
  have hlow : (commandWord op i m).extractLsb' 0 8 = m := immField_commandWord op i m
  have hhigh : (commandWord op i m).extractLsb' 8 8 = (op.setWidth 8 <<< 3) ||| BitVec.ofNat 8 i.val := by
    apply BitVec.eq_of_toNat_eq
    have hop := op.isLt
    have hm := m.isLt
    have hi : i.val < 2 ^ 3 := i.isLt
    have hshift : (op.setWidth 8 <<< 3).toNat = op.toNat <<< 3 := by
      simp only [BitVec.toNat_shiftLeft, BitVec.toNat_setWidth, Nat.shiftLeft_eq]
      omega
    have hinst : (BitVec.ofNat 8 i.val).toNat = i.val := (BitVec.toNat_ofNat ..).trans (by omega)
    rw [BitVec.toNat_or, hshift, hinst, ← Nat.shiftLeft_add_eq_or_of_lt hi, BitVec.extractLsb'_toNat,
      commandWord_toNat, Nat.shiftRight_eq_div_pow, Nat.shiftLeft_eq]
    omega
  rw [halfBytes, hlow, hhigh]

/-- A command without operand bytes is its word. -/
theorem encode_of_operandBytes_nil {c : Instr} (h : c.operandBytes = []) :
    encode c = [c.imm, (c.opcode.setWidth 8 <<< 3) ||| BitVec.ofNat 8 c.inst.val] := by
  rw [encode, h, List.append_nil, Instr.cw, halfBytes_commandWord]

end Sys2Proof

namespace Sys2Proof.Machine

/-! ### BEGIN and BEGIN_PIN (R60, R61) -/

/-- What both do on an existing instance, with the pin p they check: BEGIN's is `pin[i]`. -/
def enableOnPin (i : InstId) (p : PinId) (cw : Half) (s : State) : Result :=
  if s.st i ≠ .disabled then raise .state cw s
  else if pinExists s p = false then raise .pin cw s
  else if pinInUse s i p then raise .pinInUse cw s
  else complete 2 0 ((s.setPin i p).setSt i .enabled)

theorem exec_beginPin {s : State} {i : InstId} (p : PinId) (hi : instExists s i = true) :
    exec (.beginPin i p) s = enableOnPin i p (Instr.beginPin i p).cw s := onInstance_of_exists _ _ hi

theorem exec_beginInst {s : State} {i : InstId} (hi : instExists s i = true) :
    exec (.beginInst i) s = enableOnPin i (s.pin i) (Instr.beginInst i).cw s := by
  rw [enableOnPin, setPin_self]
  exact onInstance_of_exists _ _ hi

/-- The checks in their order, and the change that passes them all. -/
theorem enableOnPin_cases (i : InstId) (p : PinId) (cw : Half) (s : State) :
    (s.st i ≠ .disabled → enableOnPin i p cw s = raise .state cw s) ∧
    (s.st i = .disabled ∧ s.cfg.nPins ≤ p.toNat → enableOnPin i p cw s = raise .pin cw s) ∧
    (s.st i = .disabled ∧ p.toNat < s.cfg.nPins ∧
        (∃ j : InstId, j.val < s.cfg.nInst ∧ j ≠ i ∧ s.st j ≠ .disabled ∧ s.pin j = p) →
      enableOnPin i p cw s = raise .pinInUse cw s) ∧
    (s.st i = .disabled ∧ p.toNat < s.cfg.nPins ∧
        (∀ j : InstId, j.val < s.cfg.nInst → j ≠ i → s.st j ≠ .disabled → s.pin j ≠ p) →
      enableOnPin i p cw s =
        complete 2 0 { s with insts := s.insts.set i { s.insts[i] with st := .enabled, pin := p } }) := by
  refine ⟨fun hst => if_pos hst, ?_, ?_, ?_⟩
  · rintro ⟨hst, hp⟩
    simp [enableOnPin, hst, pinExists, hp]
  · rintro ⟨hst, hp, hused⟩
    simp [enableOnPin, hst, (pinExists_iff s p).mpr hp, (pinInUse_iff s i p).mpr hused]
  · rintro ⟨hst, hp, hfree⟩
    have hunused : pinInUse s i p = false := Bool.eq_false_iff.mpr fun h =>
      have ⟨j, hj, hne, hjst, hjpin⟩ := (pinInUse_iff s i p).mp h
      hfree j hj hne hjst hjpin
    simp [enableOnPin, hst, (pinExists_iff s p).mpr hp, hunused, State.setSt, State.setPin]

/-- Settles O13: BEGIN is the common rule on the instance's own pin. -/
theorem beginEnablesTheInstance : Obligations.BeginEnablesTheInstance := by
  intro i s hi
  rw [exec_beginInst ((instExists_iff s i).mpr hi)]
  exact ⟨encode_of_operandBytes_nil rfl, enableOnPin_cases ..⟩

/-- Settles O14: BEGIN_PIN is the common rule on its operand. -/
theorem beginPinSetsPinAndEnables : Obligations.BeginPinSetsPinAndEnables := by
  intro i p s hi
  rw [exec_beginPin p ((instExists_iff s i).mpr hi)]
  exact ⟨encode_of_operandBytes_nil rfl, enableOnPin_cases ..⟩

/-! ### END (R62) -/

theorem exec_endInst_of_disabled {s : State} {i : InstId} (hi : instExists s i = true) (hst : s.st i = .disabled) :
    exec (.endInst i) s = complete 2 0 s := (onInstance_of_exists _ _ hi).trans (if_pos hst)

theorem exec_endInst_of_enabled {s : State} {i : InstId} (hi : instExists s i = true) (hst : s.st i ≠ .disabled) :
    exec (.endInst i) s = complete 2 0 ((releaseRegistry i s).setSt i .disabled) :=
  (onInstance_of_exists _ _ hi).trans (if_neg hst)

theorem releaseRegistry_of_not_active {s : State} {i : InstId} (h : s.reg ≠ some i) : releaseRegistry i s = s :=
  if_neg h

theorem releaseRegistry_of_idle {s : State} {i : InstId} (hreg : s.reg = some i) (hrx : s.rxBusy = false) :
    releaseRegistry i s = { s with reg := none } := by
  simp [releaseRegistry, dropAssembly, hreg, hrx]

theorem releaseRegistry_of_receiving {s : State} {i : InstId} (hreg : s.reg = some i) (hrx : s.rxBusy = true) :
    releaseRegistry i s = { clearAssembly s with reg := none } := by
  simp [releaseRegistry, dropAssembly, hreg, hrx]

/-- Settles O15, by what END does to the registry in each case. -/
theorem endDisablesAndReleasesTheRegistry : Obligations.EndDisablesAndReleasesTheRegistry := by
  intro i s hi
  have hexists := (instExists_iff s i).mpr hi
  refine ⟨encode_of_operandBytes_nil rfl, exec_endInst_of_disabled hexists, ?_, ?_, ?_⟩
  · rintro ⟨hst, hreg⟩
    rw [exec_endInst_of_enabled hexists hst, releaseRegistry_of_not_active hreg]
    rfl
  · rintro ⟨hst, hreg, hrx⟩
    rw [exec_endInst_of_enabled hexists hst, releaseRegistry_of_idle hreg hrx]
    rfl
  · rintro ⟨hst, hreg, hrx⟩
    rw [exec_endInst_of_enabled hexists hst, releaseRegistry_of_receiving hreg hrx]
    rfl

/-! ### FORCE_HOLD and FORCE_LISTEN (R63, R64) -/

theorem exec_forceHold_of_disabled {s : State} {i : InstId} (hi : instExists s i = true) (hst : s.st i = .disabled) :
    exec (.forceHold i) s = raise .state (Instr.forceHold i).cw s :=
  (onInstance_of_exists _ _ hi).trans (if_pos hst)

theorem exec_forceHold_of_enabled {s : State} {i : InstId} (hi : instExists s i = true) (hst : s.st i ≠ .disabled) :
    exec (.forceHold i) s = complete 2 0 ((leaveListening i s).setSt i .holding) :=
  (onInstance_of_exists _ _ hi).trans (if_neg hst)

theorem leaveListening_of_receiving {s : State} {i : InstId}
    (h : s.st i = .listening ∧ s.reg = some i ∧ s.rxBusy = true) : leaveListening i s = clearAssembly s :=
  (if_pos h.1).trans (if_pos h.2)

theorem leaveListening_of_not_receiving {s : State} {i : InstId}
    (h : ¬(s.st i = .listening ∧ s.reg = some i ∧ s.rxBusy = true)) : leaveListening i s = s := by
  obtain ⟨harm, hrx, -⟩ | ⟨-, heq⟩ := leaveListening_cases i s
  · obtain ⟨hreg, hst⟩ := (armed_iff s i).mp harm
    exact absurd ⟨hst, hreg, hrx⟩ h
  · exact heq

/-- Settles O16, by whether an assembly is dropped. -/
theorem forceHoldHoldsAndDropsTheAssembly : Obligations.ForceHoldHoldsAndDropsTheAssembly := by
  intro i s hi
  have hexists := (instExists_iff s i).mpr hi
  refine ⟨encode_of_operandBytes_nil rfl, exec_forceHold_of_disabled hexists, ?_, fun hreceiving => ?_⟩
  · rintro ⟨hst, hno⟩
    rw [exec_forceHold_of_enabled hexists hst, leaveListening_of_not_receiving hno]
    rfl
  · have hst : s.st i ≠ .disabled := hreceiving.1 ▸ LineState.noConfusion
    rw [exec_forceHold_of_enabled hexists hst, leaveListening_of_receiving hreceiving]
    rfl

theorem exec_forceListen_of_disabled {s : State} {i : InstId} (hi : instExists s i = true)
    (hst : s.st i = .disabled) : exec (.forceListen i) s = raise .state (Instr.forceListen i).cw s :=
  (onInstance_of_exists _ _ hi).trans (if_pos hst)

/-- An instance made to listen is armed when it is the active one (R26). -/
theorem armed_setSt_listening_iff (s : State) (i : InstId) :
    armed (s.setSt i .listening) i = true ↔ s.reg = some i := by
  simp [armed_iff]

/-- Settles O17, by the command's effect on an enabled instance. -/
theorem forceListenListens : Obligations.ForceListenListens := by
  intro i s hi
  have hexists := (instExists_iff s i).mpr hi
  exact ⟨encode_of_operandBytes_nil rfl, exec_forceListen_of_disabled hexists,
    fun hst => ⟨_, exec_forceListen_of_enabled hexists hst, rfl, armed_setSt_listening_iff s i⟩⟩

end Sys2Proof.Machine
end

section
/-! The transition graph of the line states (40_line_state.md R56), from the effects a command can have. -/

namespace Sys2Proof.Machine

/-! ### A transmit command with nothing to drive (R93, R96) -/

theorem driveable_eq_nil_iff (segs : List Seg) : driveable segs = [] ↔ ∀ g ∈ segs, g.ticks = 0 := by
  simp [driveable, List.filter_eq_nil_iff]

/-- A character's start bit and a command's break last at least a tick (R6), so what is left is a response without
characters and without marking. -/
theorem emptyResponse_of_driveable_eq_nil {s : State} {c : Instr} {segs : List Seg} (hok : s.cfg.ok)
    (hc : (∃ b, c = .write c.inst b ∧ segs = charSegs s.cfg.bitTicks b) ∨
      (∃ t, c = .sendCommand c.inst t ∧ segs = commandSegs s.cfg t) ∨
      (∃ t, c = .sendResponse c.inst t ∧ segs = responseSegs s.cfg t))
    (hd : driveable segs = []) : c.opcode = 0x12 ∧ c.text = [] ∧ s.cfg.respMarkTicks = 0 := by
  obtain ⟨-, -, ⟨hbit, -⟩, ⟨hbreak, -⟩, -⟩ := hok
  have hzero := (driveable_eq_nil_iff segs).mp hd
  obtain ⟨b, -, rfl⟩ | ⟨text, -, rfl⟩ | ⟨text, hresponse, rfl⟩ := hc
  · have hstart : s.cfg.bitTicks = 0 := hzero ⟨.space, s.cfg.bitTicks⟩ List.mem_cons_self
    omega
  · have hwake : s.cfg.breakTicks = 0 := hzero ⟨.space, s.cfg.breakTicks⟩ List.mem_cons_self
    omega
  · have hmark : s.cfg.respMarkTicks = 0 := hzero ⟨.mark, s.cfg.respMarkTicks⟩ List.mem_cons_self
    have htext : c.text = text := congrArg Instr.text hresponse
    refine ⟨congrArg Instr.opcode hresponse, htext.trans ?_, hmark⟩
    cases text with
    | nil => rfl
    | cons b rest =>
      have hstart : s.cfg.bitTicks = 0 :=
        hzero ⟨.space, s.cfg.bitTicks⟩ (List.mem_cons_of_mem _ List.mem_cons_self)
      omega

/-! ### The line states after a command -/

/-- A command writes no line state but that of the instance it names. -/
theorem CommandEffect.st_of_ne {c : Instr} {s t : State} (he : CommandEffect s c t) {j : InstId}
    (hj : j ≠ c.inst) : t.st j = s.st j := by
  cases he with
  | activated => rfl
  | _ => simp [hj]

/-- The line state of the named instance before and after a command: kept, or a row of R56's table by the
state it leads to. -/
inductive LineTransition (s : State) (c : Instr) (t : State) : Prop where
  | kept (hst : t.st c.inst = s.st c.inst)
  | toEnabled (hst : t.st c.inst = .enabled) (hfrom : s.st c.inst = .disabled)
      (hop : c.opcode = 0x01 ∨ c.opcode = 0x02)
  | toDisabled (hst : t.st c.inst = .disabled) (hop : c.opcode = 0x03)
  | toHolding (hst : t.st c.inst = .holding) (hfrom : s.st c.inst ≠ .disabled) (hop : c.opcode = 0x04)
  | toListening (hst : t.st c.inst = .listening) (hfrom : s.st c.inst ≠ .disabled)
      (hop : c.opcode = 0x05 ∨ c.opcode = 0x12 ∧ c.text = [] ∧ s.cfg.respMarkTicks = 0)
  | toTransmitting (hst : t.st c.inst = .transmitting) (hfrom : s.st c.inst ≠ .disabled) (hbusy : t.txBusy = true)
      (hop : 0x10 ≤ c.opcode.toNat)

theorem CommandEffect.lineTransition {c : Instr} {s t : State} (he : CommandEffect s c t) (hok : s.cfg.ok) :
    LineTransition s c t := by
  cases he with
  | faulted | answered | activated | byteRead | cleared => exact .kept rfl
  | timeoutSet v => exact .kept (st_setTmo ..)
  | enabled p hst _ _ _ hc => exact .toEnabled (by simp) hst (hc.imp (congrArg Instr.opcode) (congrArg Instr.opcode))
  | disabled _ hc => exact .toDisabled (by simp) (congrArg Instr.opcode hc)
  | held hst hc => exact .toHolding (by simp) hst (congrArg Instr.opcode hc)
  | listening hst hc => exact .toListening (by simp) hst (.inl (congrArg Instr.opcode hc))
  | sentNothing segs _ hst hd hc =>
    exact .toListening (by simp) hst (.inr (emptyResponse_of_driveable_eq_nil hok hc hd))
  | sending segs g gs _ hst _ hc => exact .toTransmitting (by simp) hst rfl (opcode_of_transmit hc)

/-- Settles O48: each row answers for the line state it leads to. -/
theorem transitionGraph : Obligations.TransitionGraph := by
  intro c s t hok h
  have he := exec_effect h
  refine ⟨fun j hj => he.st_of_ne hj, fun hchange => ?_⟩
  cases he.lineTransition hok with
  | kept hst => exact absurd hst hchange
  | toEnabled hst hfrom hop => simpa [hst] using ⟨hfrom, hop⟩
  | toDisabled hst hop => simpa [hst] using hop
  | toHolding hst hfrom hop => simpa [hst] using ⟨hfrom, hop⟩
  | toListening hst hfrom hop => simpa [hst] using ⟨hfrom, hop⟩
  | toTransmitting hst hfrom hbusy hop => simpa [hst] using ⟨hfrom, hbusy, hop⟩

end Sys2Proof.Machine
end

section
/-! Sample points against the clock (41_receiver.md R66, R72, R75): an assembly in progress is between the last
sample taken and the next one. -/

namespace Sys2Proof.Machine

/-! ### The sample offsets (R66) -/

theorem sampleOffset_succ (w k : Nat) : sampleOffset w (k + 1) = sampleOffset w k + w := by
  simp only [sampleOffset, Nat.succ_mul]
  omega

theorem sampleOffset_pos {w : Nat} (hw : 0 < w) (k : Nat) : 0 < sampleOffset w k :=
  Nat.lt_of_lt_of_le (Nat.mul_pos k.succ_pos hw) (Nat.le_add_right _ _)

theorem sampleOffset_strictMono {w : Nat} (hw : 0 < w) : StrictMono (sampleOffset w) :=
  strictMono_nat_of_lt_succ fun k => by
    rw [sampleOffset_succ]
    omega

theorem bitTicks_pos {p : Params} (hok : p.ok) : 0 < p.bitTicks := by
  obtain ⟨-, -, ⟨hlo, -⟩, -⟩ := hok
  omega

/-- The largest elapsed time in use is no 32-bit wrap (R75). -/
theorem sampleOffset_lt_two_pow {p : Params} (hok : p.ok) {k : Nat} (hk : k ≤ 8) :
    sampleOffset p.bitTicks k < 2 ^ 32 := by
  have hmono := (sampleOffset_strictMono (bitTicks_pos hok)).monotone hk
  obtain ⟨-, -, ⟨-, hhi⟩, -⟩ := hok
  simp only [sampleOffset] at hmono ⊢
  omega

/-! ### The elapsed time (R75) -/

theorem elapsed_of_rxT0_eq_now {s : State} (h : s.rxT0 = s.now) : elapsed s = 0 := by
  simp [elapsed, h]

/-- One tick later, unless the elapsed time wraps. -/
theorem elapsed_succ {s t : State} (hnow : t.now = s.now + 1) (ht0 : t.rxT0 = s.rxT0)
    (hlt : elapsed s + 1 < 2 ^ 32) : elapsed t = elapsed s + 1 := by
  simp only [elapsed] at hlt ⊢
  rw [hnow, ht0]
  bv_omega

/-! ### The phases of a tick -/

theorem samplePhase_of_idle (lvl : PinId → Level) {s : State} (h : s.rxBusy = false) : samplePhase lvl s = s := by
  obtain ⟨heq, -⟩ | ⟨a, -, hbusy, -⟩ := samplePhase_cases lvl s
  · exact heq
  · exact absurd (h.symm.trans hbusy) Bool.false_ne_true

/-- Every edge during an assembly is ignored (R71). -/
theorem interruptPhase_of_busy (lvl : PinId → Level) {s : State} (h : s.rxBusy = true) :
    interruptPhase lvl s = s := by
  obtain ⟨heq, -⟩ | ⟨a, -, hidle, -⟩ := interruptPhase_cases lvl s
  · exact heq
  · exact absurd (hidle.symm.trans h) Bool.false_ne_true

/-- What the sampling invariant is between the receive phases and the clock: the sample due in this tick has been
taken. -/
def DueSampleTaken (s : State) : Prop :=
  s.rxBusy = true →
    elapsed s < sampleOffset s.cfg.bitTicks s.rxN.val ∧
    (0 < s.rxN.val → sampleOffset s.cfg.bitTicks (s.rxN.val - 1) ≤ elapsed s)

theorem dueSampleTaken_of_idle {s : State} (h : s.rxBusy = false) : DueSampleTaken s := fun hbusy =>
  absurd (h.symm.trans hbusy) Bool.false_ne_true

/-- After a sample the next one is a bit period away; after the ninth no assembly is left. -/
theorem dueSampleTaken_takeSample {s : State} (v : Level) (hw : 0 < s.cfg.bitTicks)
    (hdue : elapsed s = sampleOffset s.cfg.bitTicks s.rxN.val) : DueSampleTaken (takeSample v s) := by
  obtain ⟨hlt, heq⟩ | ⟨-, heq⟩ := takeSample_cases v s
  · rw [heq]
    intro _
    have hnext := sampleOffset_strictMono hw s.rxN.val.lt_succ_self
    exact ⟨hdue.trans_lt hnext, fun _ => hdue.ge⟩
  · rw [heq]
    exact dueSampleTaken_of_idle rfl

/-- The sampler acts on an assembly whose registry is not empty (R30(d)). -/
theorem dueSampleTaken_samplePhase {s : State} (lvl : PinId → Level) (hw : 0 < s.cfg.bitTicks)
    (hreg : s.rxBusy = true → s.reg ≠ none) (h : SamplingInv s) : DueSampleTaken (samplePhase lvl s) := by
  obtain ⟨heq, hnot⟩ | ⟨a, -, -, hdue, heq⟩ := samplePhase_cases lvl s
  · rw [heq]
    intro hbusy
    obtain ⟨-, hle, hlast⟩ := h hbusy
    obtain ⟨a, ha⟩ := Option.ne_none_iff_exists'.mp (hreg hbusy)
    exact ⟨lt_of_le_of_ne hle (hnot a ha hbusy), fun hn => (hlast hn).le⟩
  · rw [heq]
    exact dueSampleTaken_takeSample _ hw hdue

/-- An assembly that starts in this tick awaits its first sample (R70). -/
theorem dueSampleTaken_interruptPhase {s : State} (lvl : PinId → Level) (hw : 0 < s.cfg.bitTicks)
    (h : DueSampleTaken s) : DueSampleTaken (interruptPhase lvl s) := by
  obtain ⟨heq, -⟩ | ⟨a, -, -, -, heq⟩ := interruptPhase_cases lvl s
  · rwa [heq]
  · rw [heq]
    intro _
    rw [elapsed_of_rxT0_eq_now rfl]
    exact ⟨sampleOffset_pos hw 0, fun hn => absurd hn (Nat.lt_irrefl 0)⟩

/-- The clock moves on by one tick, which the 32-bit elapsed time can count (R75). -/
theorem samplingInv_of_dueSampleTaken {s t : State} (hok : s.cfg.ok) (hcfg : t.cfg = s.cfg)
    (hbusy : t.rxBusy = s.rxBusy) (hn : t.rxN = s.rxN) (ht0 : t.rxT0 = s.rxT0) (hnow : t.now = s.now + 1)
    (h : DueSampleTaken s) : SamplingInv t := by
  intro hb
  obtain ⟨hlt, hlast⟩ := h (hbusy ▸ hb)
  have hwrap := sampleOffset_lt_two_pow hok (Nat.le_of_lt_succ s.rxN.isLt)
  rw [elapsed_succ hnow ht0 (by omega), hcfg, hn]
  exact ⟨Nat.le_add_left 1 _, hlt, fun hpos => Nat.lt_succ_of_le (hlast hpos)⟩

theorem samplingInv_tick {s : State} (d : Draw) (hok : s.cfg.ok) (hreg : s.rxBusy = true → s.reg ≠ none)
    (h : SamplingInv s) : SamplingInv (tick d s) := by
  have hw := bitTicks_pos hok
  have hdue : DueSampleTaken (interruptPhase (pinLevel d s) (samplePhase (pinLevel d s) s)) :=
    dueSampleTaken_interruptPhase _ (by simpa using hw) (dueSampleTaken_samplePhase _ hw hreg h)
  exact samplingInv_of_dueSampleTaken (by simpa using hok) (by simp) (by simp [tick]) (by simp [tick])
    (by simp [tick]) (by simp [tick]) hdue

/-! ### The commands -/

/-- The invariant speaks of these registers only, and of them only during an assembly. -/
theorem samplingInv_congr {s t : State} (h : SamplingInv s) (hcfg : t.cfg = s.cfg) (hnow : t.now = s.now)
    (ht0 : t.rxT0 = s.rxT0) (hrx : t.rxBusy = true → s.rxBusy = true ∧ t.rxN = s.rxN) : SamplingInv t := by
  intro hbusy
  obtain ⟨hbusy, hn⟩ := hrx hbusy
  simpa only [elapsed, hnow, ht0, hcfg, hn] using h hbusy

/-- A command starts no assembly, and it takes no tick. -/
theorem CommandEffect.samplingInv {c : Instr} {s t : State} (he : CommandEffect s c t) (h : SamplingInv s) :
    SamplingInv t := by
  obtain ⟨hnow, -, ht0⟩ := he.clock
  refine samplingInv_congr h he.cfg_stream.1 hnow ht0 fun hbusy => ?_
  obtain ⟨hbusy, hn, -⟩ := he.beginsNoAssembly hbusy
  exact ⟨hbusy, hn⟩

theorem samplingInv_hostStep {s t : State} (hstep : hostStep s = .next t) (h : SamplingInv s) : SamplingInv t := by
  obtain ⟨r, -, rfl⟩ | ⟨c, -, hc⟩ := hostStep_cases hstep
  · exact h
  · exact (exec_effect hc).samplingInv h

/-- An assembly in progress has an active instance (R30(d)). -/
theorem AssemblyInv.reg_ne_none {s : State} (h : AssemblyInv s) (hbusy : s.rxBusy = true) : s.reg ≠ none := by
  obtain ⟨i, harm⟩ := h.1 hbusy
  simp [((armed_iff s i).mp harm).1]

/-- Settles O55: HOST neither starts an assembly nor moves the clock, and in a tick the sample that is due is taken
before the clock moves on. -/
theorem stepKeepsTheSamplingInvariant : Obligations.StepKeepsTheSamplingInvariant := by
  rintro s t hstep ⟨hok, -, hassembly, -⟩ h
  have hinput : SamplingInv (dropInput s) := by apply samplingInv_congr h <;> simp
  obtain ⟨-, ⟨-, -, hhost⟩ | rfl⟩ := step_cases hstep
  · exact samplingInv_hostStep hhost hinput
  · exact samplingInv_tick _ (by simpa using hok) (by simpa using hassembly.reg_ne_none) hinput

end Sys2Proof.Machine
end

section
/-! Parity (41_receiver.md R67): the parity bit is the XOR of the data bits, so it counts them modulo 2 and one flip
inverts it. -/

namespace Sys2Proof.Machine

theorem parityOK_iff (d : BitVec 7) (p : Bool) : parityOK d p = true ↔ parity7 d = p := by
  simp [parityOK]

/-- The XOR of the bits listed. -/
def xorBits (p : Nat → Bool) (ks : List Nat) : Bool := ks.foldr (fun k b => p k ^^ b) false

theorem xorBits_cons (p : Nat → Bool) (k : Nat) (ks : List Nat) : xorBits p (k :: ks) = (p k ^^ xorBits p ks) := rfl

theorem xorBits_eq_odd_countP (p : Nat → Bool) (ks : List Nat) : xorBits p ks = decide (ks.countP p % 2 = 1) := by
  induction ks with
  | nil => rfl
  | cons k ks ih =>
    rw [xorBits_cons, ih, List.countP_cons]
    rcases Nat.mod_two_eq_zero_or_one (ks.countP p) with h | h <;> cases p k <;> simp [h, Nat.add_mod]

theorem xorBits_xor (p q : Nat → Bool) (ks : List Nat) :
    xorBits (fun k => p k ^^ q k) ks = (xorBits p ks ^^ xorBits q ks) := by
  have hswap : ∀ a b c d : Bool, ((a ^^ b) ^^ (c ^^ d)) = ((a ^^ c) ^^ (b ^^ d)) := by decide
  induction ks with
  | nil => rfl
  | cons k ks ih => simp only [xorBits_cons, ih, hswap (p k)]

theorem parity7_eq_xorBits (d : BitVec 7) : parity7 d = xorBits d.getLsbD (List.range 7) := by
  simp only [parity7, xorBits, List.range, List.range.loop, List.foldr, Bool.xor_assoc, Bool.xor_false]

theorem parity7_xor (d e : BitVec 7) : parity7 (d ^^^ e) = (parity7 d ^^ parity7 e) := by
  have hbits : (d ^^^ e).getLsbD = fun k => d.getLsbD k ^^ e.getLsbD k := funext fun _ => BitVec.getLsbD_xor
  simp only [parity7_eq_xorBits, hbits, xorBits_xor]

theorem parity7_one_bit (k : Fin 7) : parity7 (1#7 <<< k.val) = true := by
  revert k
  decide

theorem parity7_flip (d : BitVec 7) (k : Fin 7) : parity7 (d ^^^ (1#7 <<< k.val)) = !parity7 d := by
  simp [parity7_xor, parity7_one_bit]

/-- Settles O29: the parity bit is 1 exactly for an odd number of data bits, and a flip of one bit inverts it. -/
theorem parityDetectsSingleFlips : Obligations.ParityDetectsSingleFlips := by
  intro d
  refine ⟨?_, ?_, ?_, fun k => ?_⟩
  · rw [parity7_eq_xorBits, xorBits_eq_odd_countP]
    rcases Nat.mod_two_eq_zero_or_one ((List.range 7).countP d.getLsbD) with h | h <;> simp [h, Nat.add_mod]
  · exact (parityOK_iff d _).mpr rfl
  · simp [parityOK]
  · simp [parityOK, parity7_flip]

end Sys2Proof.Machine
end

section
/-! The sampler (41_receiver.md R72, R73): one sample is one bit of the pattern, and the ninth completes the
character. -/

namespace Sys2Proof.Machine

theorem levelBit_eq_decide (v : Level) : levelBit v = decide (v = .mark) := by
  cases v <;> rfl

theorem levelBit_bitLevel (b : Bool) : levelBit (bitLevel b) = b := by
  cases b <;> rfl

theorem getLsbD_setSample (pat : BitVec 9) {n : Nat} (hn : n < 9) (v : Level) (k : Nat) :
    (setSample pat n v).getLsbD k = if k = n then levelBit v else pat.getLsbD k := by
  have hbit : (1#9 <<< n).getLsbD k = decide (k = n) := by
    rw [Bool.eq_iff_iff]
    simp only [BitVec.getLsbD_shiftLeft, BitVec.getLsbD_one, Bool.and_eq_true, decide_eq_true_eq, Bool.not_eq_true',
      decide_eq_false_iff_not]
    omega
  have hval : (if levelBit v then 1#9 <<< n else 0#9).getLsbD k = (levelBit v && decide (k = n)) := by
    cases levelBit v <;> simp [hbit]
  rw [setSample, BitVec.getLsbD_or, BitVec.getLsbD_and, BitVec.getLsbD_not, hbit, hval]
  by_cases hk : k = n
  · simp [hk]
  · by_cases hk9 : k < 9
    · simp [hk, hk9]
    · simp [hk, hk9, BitVec.getLsbD_of_ge pat k (by omega)]

theorem patValid_iff (pat : BitVec 9) :
    patValid pat = true ↔ pat.getLsbD 8 = true ∧ pat.getLsbD 7 = parity7 (patData pat) := by
  rw [patValid, Bool.and_eq_true, parityOK_iff, eq_comm (a := parity7 _)]

theorem completeChar_of_valid {s : State} (h : patValid s.rxPat = true) :
    completeChar s = clearAssembly (push ((patData s.rxPat).setWidth 8) s) := by
  simp [completeChar, h]

theorem completeChar_of_invalid {s : State} (h : patValid s.rxPat = false) : completeChar s = clearAssembly s := by
  simp [completeChar, h]

theorem takeSample_of_lt {s : State} (v : Level) (h : s.rxN.val < 8) :
    takeSample v s = { s with rxPat := setSample s.rxPat s.rxN.val v, rxN := ⟨s.rxN.val + 1, by omega⟩ } :=
  dif_pos h

theorem takeSample_of_eq_eight {s : State} (v : Level) (h : s.rxN.val = 8) :
    takeSample v s = completeChar { s with rxPat := setSample s.rxPat s.rxN.val v } :=
  dif_neg (by omega)

/-- The ninth sample of a character that is pushed (R73). -/
theorem takeSample_of_valid {s : State} {v : Level} (h : s.rxN.val = 8)
    (hvalid : patValid (setSample s.rxPat s.rxN.val v) = true) :
    takeSample v s = clearAssembly (push ((patData (setSample s.rxPat s.rxN.val v)).setWidth 8) s) := by
  rw [takeSample_of_eq_eight v h,
    completeChar_of_valid (s := { s with rxPat := setSample s.rxPat s.rxN.val v }) hvalid, push_rxPat_update]
  rfl

/-- The ninth sample of a character that is discarded (R73). -/
theorem takeSample_of_invalid {s : State} {v : Level} (h : s.rxN.val = 8)
    (hinvalid : patValid (setSample s.rxPat s.rxN.val v) = false) : takeSample v s = clearAssembly s := by
  rw [takeSample_of_eq_eight v h,
    completeChar_of_invalid (s := { s with rxPat := setSample s.rxPat s.rxN.val v }) hinvalid]
  rfl

theorem samplePhase_of_not_due (lvl : PinId → Level) {s : State}
    (h : elapsed s ≠ sampleOffset s.cfg.bitTicks s.rxN.val) : samplePhase lvl s = s := by
  obtain ⟨heq, -⟩ | ⟨a, -, -, hdue, -⟩ := samplePhase_cases lvl s
  · exact heq
  · exact absurd hdue h

theorem samplePhase_of_due (lvl : PinId → Level) {s : State} {a : InstId} (hreg : s.reg = some a)
    (hbusy : s.rxBusy = true) (h : elapsed s = sampleOffset s.cfg.bitTicks s.rxN.val) :
    samplePhase lvl s = takeSample (lvl (s.pin a)) s := by
  simp [samplePhase, hreg, hbusy, h]

/-- Settles O30: the witness is the pattern with the sample in place, and each clause one branch of the sampler. -/
theorem samplerTakesTheDueSample : Obligations.SamplerTakesTheDueSample := by
  refine fun lvl s => ⟨samplePhase_of_idle lvl, fun a hreg =>
    ⟨fun _ hnot => samplePhase_of_not_due lvl hnot, fun hbusy hdue => ?_⟩⟩
  have heq := samplePhase_of_due lvl hreg hbusy hdue
  refine ⟨setSample s.rxPat s.rxN.val (lvl (s.pin a)), fun k => ?bit, fun hlt => ?next, fun hninth => ⟨?_, ?_⟩⟩
  case bit => rw [getLsbD_setSample _ s.rxN.isLt, levelBit_eq_decide]
  case next => rw [heq, takeSample_of_lt _ hlt]
  · exact fun hvalid => heq.trans (takeSample_of_valid hninth ((patValid_iff _).mpr hvalid))
  · exact fun hinvalid => heq.trans
      (takeSample_of_invalid hninth (Bool.eq_false_iff.mpr (mt (patValid_iff _).mp hinvalid)))

end Sys2Proof.Machine
end

section
/-! Start detection (41_receiver.md R68 to R71), and what a tick is to a receiver that is not armed. -/

namespace Sys2Proof.Machine

theorem fall_iff (lvl : PinId → Level) (s : State) (p : PinId) :
    fall lvl s p = true ↔ prevLevel s p = .mark ∧ lvl p = .space := by
  simp [fall]

theorem interruptPhase_of_fall (lvl : PinId → Level) {s : State} {a : InstId} (harm : armed s a = true)
    (hidle : s.rxBusy = false) (hfall : fall lvl s (s.pin a) = true) :
    interruptPhase lvl s = { s with rxBusy := true, rxT0 := s.now, rxN := 0, rxPat := 0 } := by
  obtain ⟨-, hnone⟩ | ⟨_, -, -, -, heq⟩ := interruptPhase_cases lvl s
  · obtain hbusy | hno := hnone a harm
    · exact absurd (hidle.symm.trans hbusy) Bool.false_ne_true
    · exact absurd (hno.symm.trans hfall) Bool.false_ne_true
  · exact heq

theorem interruptPhase_of_no_fall (lvl : PinId → Level) {s : State}
    (h : ∀ a, armed s a = true → s.rxBusy = true ∨ fall lvl s (s.pin a) = false) : interruptPhase lvl s = s := by
  obtain ⟨heq, -⟩ | ⟨a, harm, hidle, hfall, -⟩ := interruptPhase_cases lvl s
  · exact heq
  · have := h a harm
    simp [hidle, hfall] at this

/-- Settles O31, by the two cases of the interrupt phase. -/
theorem interruptStartsAssemblyOnFall : Obligations.InterruptStartsAssemblyOnFall := by
  refine fun lvl s => ⟨fun a harm hidle hmark hspace => ?_, fun h => ?_⟩
  · exact interruptPhase_of_fall lvl harm hidle ((fall_iff lvl s _).mpr ⟨hmark, hspace⟩)
  · refine interruptPhase_of_no_fall lvl fun a harm => (h a harm).imp_right fun hstill => ?_
    obtain hspace | hmark := hstill <;> simp [fall, *]

/-- The transmitter neither reads nor writes the remembered levels. -/
theorem transmitPhase_prev_update (s : State) (ls : List Level) :
    transmitPhase { s with prev := ls } = { transmitPhase s with prev := ls } := by
  simp only [transmitPhase]
  split
  · split
    · split <;> rfl
    · rfl
  · rfl

/-- The receive phases do nothing, so the levels reach the edge detector's memory alone. -/
theorem tick_of_unarmed (d : Draw) {s : State} (hunarmed : ∀ a, armed s a = false) (hidle : s.rxBusy = false) :
    tick d s = timePhase (transmitPhase (rememberPhase (pinLevel d s) s)) := by
  rw [tick, samplePhase_of_idle _ hidle,
    interruptPhase_of_no_fall _ fun a harm => absurd ((hunarmed a).symm.trans harm) Bool.false_ne_true]

/-- Settles O32. -/
theorem unarmedReceiverIgnoresTheLine : Obligations.UnarmedReceiverIgnoresTheLine := by
  intro d d' s hunarmed hidle
  have hline : ∀ d, { tick d s with prev := [] } = { timePhase (transmitPhase s) with prev := [] } := fun d => by
    rw [tick_of_unarmed d hunarmed hidle, rememberPhase, transmitPhase_prev_update]
    rfl
  rw [hline d, hline d']

end Sys2Proof.Machine
end

section
/-! The nine samples of a character (41_receiver.md R72, R76): bit k of the pattern is sample k, and a frame sampled
inside its own bits gives the character back. -/

namespace Sys2Proof.Machine

/-! ### The pattern of the first samples -/

/-- What the sampler has assembled from its first n samples, the k-th of them `v k` (R72). -/
def patternOf (v : Nat → Level) (n : Nat) : BitVec 9 := (List.range n).foldl (fun pat k => setSample pat k (v k)) 0

theorem patternOf_succ (v : Nat → Level) (n : Nat) : patternOf v (n + 1) = setSample (patternOf v n) n (v n) := by
  simp [patternOf, List.range_succ]

theorem samplePattern_eq_patternOf (v : Nat → Level) : samplePattern v = patternOf v 9 := rfl

theorem getLsbD_patternOf (v : Nat → Level) {n : Nat} (hn : n ≤ 9) (k : Nat) :
    (patternOf v n).getLsbD k = (decide (k < n) && levelBit (v k)) := by
  induction n with
  | zero => simp [patternOf]
  | succ n ih =>
    rw [patternOf_succ, getLsbD_setSample _ hn, ih (Nat.le_of_succ_le hn)]
    obtain hlt | rfl | hgt := Nat.lt_trichotomy k n
    · simp [hlt, hlt.ne, Nat.lt_succ_of_lt hlt]
    · simp
    · simp [hgt.ne', Nat.not_lt_of_gt hgt, Nat.not_le_of_gt hgt]

theorem getLsbD_samplePattern (v : Nat → Level) {k : Nat} (hk : k ≤ 8) :
    (samplePattern v).getLsbD k = levelBit (v k) := by
  rw [samplePattern_eq_patternOf, getLsbD_patternOf v le_rfl]
  simp [Nat.lt_succ_of_le hk]

theorem samplePattern_congr {v v' : Nat → Level} (h : ∀ k, k ≤ 8 → v k = v' k) :
    samplePattern v = samplePattern v' := by
  refine BitVec.eq_of_getLsbD_eq fun k hk => ?_
  have hk8 : k ≤ 8 := Nat.le_of_lt_succ hk
  rw [getLsbD_samplePattern v hk8, getLsbD_samplePattern v' hk8, h k hk8]

/-! ### The frame of a character (R91, R76) -/

/-- Segments of one length: which of them is driven is the quotient of the time. -/
theorem levelAt_of_equal_ticks {b : Nat} (hb : 0 < b) {segs : List Seg} (h : ∀ g ∈ segs, g.ticks = b) (t : Nat) :
    levelAt segs t = segs[t / b]?.map Seg.level := by
  induction segs generalizing t with
  | nil => rfl
  | cons g gs ih =>
    have hg : g.ticks = b := h g List.mem_cons_self
    rw [levelAt, hg]
    split
    · next hlt => simp [Nat.div_eq_of_lt hlt]
    · next hge =>
      have hdiv : t / b = (t - b) / b + 1 := Nat.div_eq_sub_div hb (Nat.le_of_not_lt hge)
      rw [ih (fun x hx => h x (List.mem_cons_of_mem g hx)), hdiv, List.getElem?_cons_succ]

/-- What the frame of a character carries in the frame bit of sample k: data bits, parity bit, stop bit (R66). -/
def frameBit (c : Byte) (k : Nat) : Bool :=
  if k < 7 then c.getLsbD k else if k = 7 then parity7 (c.setWidth 7) else true

theorem charSegs_getElem?_level (b : Nat) (c : Byte) {k : Nat} (hk : k ≤ 8) :
    (charSegs b c)[k + 1]?.map Seg.level = some (bitLevel (frameBit c k)) := by
  interval_cases k <;> rfl

/-- Sample k is frame bit k + 1 when its time falls inside that bit (R76). -/
theorem levelAt_charSegs {b : Nat} (c : Byte) {k t : Nat} (hk : k ≤ 8) (hlo : (k + 1) * b ≤ t)
    (hhi : t < (k + 2) * b) : levelAt (charSegs b c) t = some (bitLevel (frameBit c k)) := by
  have hb : 0 < b := Nat.pos_of_ne_zero fun h => by simp [h] at hhi
  have hdiv : t / b = k + 1 := Nat.div_eq_of_lt_le hlo hhi
  rw [levelAt_of_equal_ticks hb (fun g hg => ticks_of_mem_charSegs hg), hdiv, charSegs_getElem?_level b c hk]

theorem patData_samplePattern_frame (c : Byte) :
    patData (samplePattern fun k => bitLevel (frameBit c k)) = c.setWidth 7 := by
  refine BitVec.eq_of_getLsbD_eq fun k hk => ?_
  rw [patData, BitVec.getLsbD_extractLsb', Nat.zero_add, getLsbD_samplePattern _ (by omega), levelBit_bitLevel]
  simp [frameBit, hk]

theorem patValid_samplePattern_frame (c : Byte) :
    patValid (samplePattern fun k => bitLevel (frameBit c k)) = true := by
  rw [patValid_iff, patData_samplePattern_frame, getLsbD_samplePattern _ le_rfl, getLsbD_samplePattern _ (by omega),
    levelBit_bitLevel, levelBit_bitLevel]
  exact ⟨rfl, rfl⟩

/-- A sample point lies inside its own frame bit when sender and receiver have one bit period (R66). -/
theorem sampleOffset_in_frame_bit {w : Nat} (hw : 1 ≤ w) (k : Nat) :
    (k + 1) * w ≤ sampleOffset w k ∧ sampleOffset w k < (k + 2) * w := by
  have hbit : (k + 2) * w = (k + 1) * w + w := Nat.succ_mul (k + 1) w
  simp only [sampleOffset]
  omega

/-- Settles O33: each sample is the frame bit it falls in. -/
theorem sampledWaveformIsTheCharacter : Obligations.SampledWaveformIsTheCharacter := by
  refine ⟨fun w b c hinside v hv => ?_, fun w k hw => sampleOffset_in_frame_bit hw k⟩
  have hframe : samplePattern v = samplePattern fun k => bitLevel (frameBit c k) :=
    samplePattern_congr fun k hk => by
      obtain ⟨hlo, hhi⟩ := hinside k hk
      exact Option.some.inj ((hv k hk).symm.trans (levelAt_charSegs c hk hlo hhi))
  rw [hframe]
  exact ⟨patValid_samplePattern_frame c, patData_samplePattern_frame c⟩

end Sys2Proof.Machine
end

section
/-! What the buffer holds after a push (42_buffer.md R79). -/

namespace Sys2Proof.Machine

theorem SameBuffer.contents_eq {s t : State} (h : SameBuffer t s) : bufferContents t = bufferContents s := by
  obtain ⟨hslots, -, htail, hcount, -⟩ := h
  simp only [bufferContents, memRead, hslots, htail, hcount]

theorem SameBuffer.trans {s t u : State} (htu : SameBuffer t u) (hus : SameBuffer u s) : SameBuffer t s := by
  obtain ⟨h1, h2, h3, h4, h5⟩ := htu
  obtain ⟨k1, k2, k3, k4, k5⟩ := hus
  exact ⟨h1.trans k1, h2.trans k2, h3.trans k3, h4.trans k4, h5.trans k5⟩

theorem sameBuffer_push {s t : State} (v : Byte) (h : SameBuffer t s) : SameBuffer (push v t) (push v s) := by
  obtain ⟨hslots, hhead, htail, hcount, hovf⟩ := h
  by_cases hroom : s.count.val < 75
  · rw [push_room v s hroom, push_room v t (hcount ▸ hroom)]
    simp [SameBuffer, hslots, hhead, htail, hcount, hovf]
  · rw [push_full v s hroom, push_full v t (hcount ▸ hroom)]
    exact ⟨hslots, hhead, htail, hcount, rfl⟩

theorem ovf_push_eq (v : Byte) (s : State) : (push v s).ovf = (s.ovf || decide (s.count.val = 75)) := by
  by_cases hroom : s.count.val < 75
  · rw [push_room v s hroom]
    simp [hroom.ne]
  · have hfull : s.count.val = 75 := by omega
    rw [push_full v s hroom]
    simp [hfull]

/-- With room the new byte is the last one held; a full buffer drops it. -/
theorem bufferContents_push {s : State} (v : Byte) (hhead : s.head.val = (s.tail.val + s.count.val) % 75) :
    bufferContents (push v s) = if s.count.val < 75 then bufferContents s ++ [v] else bufferContents s := by
  split
  · next hroom =>
    have hlast : slotAfter s.tail s.count.val = s.head := Fin.ext hhead.symm
    have hheld : ∀ k ∈ List.range s.count.val,
        memRead (memWrite s s.head v) (slotAfter s.tail k) = memRead s (slotAfter s.tail k) := fun k hk => by
      refine memRead_memWrite_other s s.head _ v fun heq => ?_
      have hlt := List.mem_range.mp hk
      have hval := congrArg Fin.val heq
      simp only [slotAfter] at hval
      omega
    calc bufferContents (push v s)
        = (List.range (s.count.val + 1)).map fun k => memRead (memWrite s s.head v) (slotAfter s.tail k) := by
          rw [push_room v s hroom]
          rfl
      _ = bufferContents s ++ [v] := by
          rw [List.range_succ, List.map_append, List.map_congr_left hheld, List.map_singleton, hlast,
            memRead_memWrite_same]
          rfl
  · next hfull =>
    rw [push_full v s hfull]
    rfl

end Sys2Proof.Machine
end

section
/-! A whole character over ticks (41_receiver.md R70, R72, R73, R75): from the start edge to the ninth sample. -/

namespace Sys2Proof.Machine

theorem runTicks_take_succ {ds : List Draw} {t : Nat} (h : t < ds.length) (s : State) :
    runTicks (ds.take (t + 1)) s = tick (ds.getD t {}) (runTicks (ds.take t) s) := by
  rw [List.take_succ_eq_append_getElem h, runTicks_append, List.getD_eq_getElem ds {} h]
  rfl

/-- `u` is the state t ticks after a start edge in `s`: instance a assembles, the k-th sample being `v k`, and the
buffer is still that of `s`. -/
structure Assembling (s : State) (a : InstId) (v : Nat → Level) (t : Nat) (u : State) : Prop where
  cfg : u.cfg = s.cfg
  reg : u.reg = some a
  pin : u.pin a = s.pin a
  busy : u.rxBusy = true
  time : elapsed u = t
  sampling : SamplingInv u
  pattern : u.rxPat = patternOf v u.rxN.val
  buffer : SameBuffer u s

section

variable {s u : State} {a : InstId} {v : Nat → Level} {t : Nat}

/-- The tick of the start edge (R70). -/
theorem assembling_of_start_edge (d : Draw) (hok : s.cfg.ok) (harm : armed s a = true) (hidle : s.rxBusy = false)
    (hfall : fall (pinLevel d s) s (s.pin a) = true) : Assembling s a v 1 (tick d s) := by
  obtain ⟨hreg, -⟩ := (armed_iff s a).mp harm
  have hrx : interruptPhase (pinLevel d s) (samplePhase (pinLevel d s) s) =
      { s with rxBusy := true, rxT0 := s.now, rxN := 0, rxPat := 0 } := by
    rw [samplePhase_of_idle _ hidle, interruptPhase_of_fall _ harm hidle hfall]
  have hnotbusy : ¬ s.rxBusy = true := by simp [hidle]
  exact {
    cfg := tick_cfg d s
    reg := by simpa [tick] using hreg
    pin := by simp [tick]
    busy := by simp [tick, hrx]
    time := by simp [tick, hrx, elapsed]
    sampling := samplingInv_tick d hok (fun hb => absurd hb hnotbusy) (fun hb => absurd hb hnotbusy)
    pattern := by simp [tick, hrx, patternOf]
    buffer := by simp [tick, hrx, SameBuffer] }

/-- The sample phase of a tick before that of the ninth sample. -/
theorem Assembling.samplePhase_of_lt (h : Assembling s a v t u) (lvl : PinId → Level)
    (ht : t < sampleOffset s.cfg.bitTicks 8)
    (hv : ∀ k, k ≤ 8 → t = sampleOffset s.cfg.bitTicks k → lvl (s.pin a) = v k) :
    (samplePhase lvl u).rxBusy = true ∧
    (samplePhase lvl u).rxPat = patternOf v (samplePhase lvl u).rxN.val ∧ SameBuffer (samplePhase lvl u) s := by
  have hn : u.rxN.val ≤ 8 := Nat.le_of_lt_succ u.rxN.isLt
  by_cases hdue : elapsed u = sampleOffset u.cfg.bitTicks u.rxN.val
  · have htn : t = sampleOffset s.cfg.bitTicks u.rxN.val := by rw [← h.time, hdue, h.cfg]
    have hlt : u.rxN.val < 8 := lt_of_le_of_ne hn fun h8 => ht.ne (h8 ▸ htn)
    rw [samplePhase_of_due lvl h.reg h.busy hdue, takeSample_of_lt _ hlt, h.pin, hv _ hn htn]
    refine ⟨h.busy, ?_, h.buffer⟩
    rw [patternOf_succ, ← h.pattern]
  · rw [samplePhase_of_not_due lvl hdue]
    exact ⟨h.busy, h.pattern, h.buffer⟩

theorem assembling_tick (d : Draw) (h : Assembling s a v t u) (hok : s.cfg.ok)
    (ht : t < sampleOffset s.cfg.bitTicks 8)
    (hv : ∀ k, k ≤ 8 → t = sampleOffset s.cfg.bitTicks k → pinLevel d u (s.pin a) = v k) :
    Assembling s a v (t + 1) (tick d u) := by
  obtain ⟨hbusy, hpattern, hbuffer⟩ := h.samplePhase_of_lt (pinLevel d u) ht hv
  have hrx : interruptPhase (pinLevel d u) (samplePhase (pinLevel d u) u) = samplePhase (pinLevel d u) u :=
    interruptPhase_of_busy _ hbusy
  have hwrap := sampleOffset_lt_two_pow hok le_rfl
  have htime := h.time
  exact {
    cfg := (tick_cfg d u).trans h.cfg
    reg := by simpa [tick] using h.reg
    pin := by simpa [tick] using h.pin
    busy := by simpa [tick, hrx] using hbusy
    time := by
      rw [← htime]
      exact elapsed_succ (by simp [tick]) (by simp [tick, hrx]) (by omega)
    sampling := samplingInv_tick d (h.cfg ▸ hok) (fun _ => by simp [h.reg]) h.sampling
    pattern := by simpa [tick, hrx] using hpattern
    buffer := (tick_sameBuffer_samplePhase d u).trans hbuffer }

/-- At the time of the last sample the eight before it have been taken: none was missed (R72). -/
theorem Assembling.rxN_eq_eight (h : Assembling s a v (sampleOffset s.cfg.bitTicks 8) u) (hok : s.cfg.ok) :
    u.rxN.val = 8 := by
  obtain ⟨-, hle, -⟩ := h.sampling h.busy
  rw [h.time, h.cfg] at hle
  exact Nat.le_antisymm (Nat.le_of_lt_succ u.rxN.isLt) ((sampleOffset_strictMono (bitTicks_pos hok)).le_iff_le.mp hle)

/-- The tick of the ninth sample pushes the character or discards it (R73). -/
theorem Assembling.complete (h : Assembling s a v (sampleOffset s.cfg.bitTicks 8) u) (d : Draw) (hok : s.cfg.ok)
    (hv : pinLevel d u (s.pin a) = v 8) :
    SameBuffer (tick d u)
      (if patValid (samplePattern v) = true then push ((patData (samplePattern v)).setWidth 8) s else s) := by
  have hn := h.rxN_eq_eight hok
  have hdue : elapsed u = sampleOffset u.cfg.bitTicks u.rxN.val := by rw [h.time, h.cfg, hn]
  have hninth : setSample u.rxPat u.rxN.val (v 8) = samplePattern v := by
    rw [h.pattern, hn]
    exact (patternOf_succ v 8).symm
  refine (tick_sameBuffer_samplePhase d u).trans ?_
  rw [samplePhase_of_due _ h.reg h.busy hdue, h.pin, hv]
  split
  · next hvalid =>
    rw [takeSample_of_valid hn (hninth ▸ hvalid), hninth]
    exact sameBuffer_push _ h.buffer
  · next hinvalid =>
    rw [takeSample_of_invalid hn (hninth ▸ Bool.eq_false_iff.mpr hinvalid)]
    exact h.buffer

/-- From the tick after the start edge up to that of the ninth sample the assembly goes on. -/
theorem assembling_runTicks {ds : List Draw} (hok : s.cfg.ok) (harm : armed s a = true) (hidle : s.rxBusy = false)
    (hlen : ds.length = sampleOffset s.cfg.bitTicks 8 + 1) (hprev : prevLevel s (s.pin a) = .mark)
    (hline : lineAt ds s (s.pin a) 0 = .space) (hpos : 1 ≤ t) (ht : t ≤ sampleOffset s.cfg.bitTicks 8) :
    Assembling s a (fun k => lineAt ds s (s.pin a) (sampleOffset s.cfg.bitTicks k)) t (runTicks (ds.take t) s) := by
  induction t, hpos using Nat.le_induction with
  | base =>
    rw [runTicks_take_succ (by omega)]
    exact assembling_of_start_edge _ hok harm hidle ((fall_iff _ s _).mpr ⟨hprev, hline⟩)
  | succ t _ ih =>
    rw [runTicks_take_succ (by omega)]
    exact assembling_tick _ (ih (Nat.le_of_succ_le ht)) hok ht fun k _ hk => by rw [← hk, lineAt]

/-- The whole character: the buffer after the ninth sample is that of `s`, with the character pushed if it is
valid. -/
theorem sameBuffer_runTicks_character {ds : List Draw} (hok : s.cfg.ok) (harm : armed s a = true)
    (hidle : s.rxBusy = false) (hlen : ds.length = sampleOffset s.cfg.bitTicks 8 + 1)
    (hprev : prevLevel s (s.pin a) = .mark) (hline : lineAt ds s (s.pin a) 0 = .space) :
    let pat := samplePattern (fun k => lineAt ds s (s.pin a) (sampleOffset s.cfg.bitTicks k))
    SameBuffer (runTicks ds s) (if patValid pat = true then push ((patData pat).setWidth 8) s else s) := by
  have hpos : 1 ≤ sampleOffset s.cfg.bitTicks 8 := sampleOffset_pos (bitTicks_pos hok) 8
  have hlast : runTicks ds s = tick (ds.getD (sampleOffset s.cfg.bitTicks 8) {})
      (runTicks (ds.take (sampleOffset s.cfg.bitTicks 8)) s) := by
    rw [← runTicks_take_succ (by omega), ← hlen, List.take_length]
  rw [hlast]
  exact (assembling_runTicks hok harm hidle hlen hprev hline hpos le_rfl).complete _ hok rfl

end

/-- Settles O34: the one push, or none, read off the buffer's contents and the overflow flag. -/
theorem nineSamplesDecideTheCharacter : Obligations.NineSamplesDecideTheCharacter := by
  intro s a ds hok hinv harm hidle hlen hprev hline pat
  have hbuffer := sameBuffer_runTicks_character hok harm hidle hlen hprev hline
  have hcontents := hbuffer.contents_eq
  obtain ⟨-, -, -, -, hovf⟩ := hbuffer
  obtain ⟨-, hhead, -⟩ := hinv
  rw [hcontents, hovf]
  by_cases hvalid : patValid pat = true
  · simp only [pat, hvalid, if_true, true_and, Bool.true_and]
    exact ⟨bufferContents_push _ hhead, ovf_push_eq _ s⟩
  · simp [pat, hvalid]

theorem patValid_eq_false_of_stop_space {v : Nat → Level} (h : v 8 = .space) :
    patValid (samplePattern v) = false := by
  rw [patValid, getLsbD_samplePattern v le_rfl, h]
  rfl

/-- Settles O35, by the pattern of nine marks and by the stop bit of a pattern. -/
theorem glitchIsReceivedBreakIsDiscarded : Obligations.GlitchIsReceivedBreakIsDiscarded := by
  intro s a ds hok hinv harm hidle hlen hprev hline
  have hcharacter := nineSamplesDecideTheCharacter s a ds hok hinv harm hidle hlen hprev hline
  refine ⟨fun ⟨hmarks, hroom⟩ => ?_, fun hspace => ?_⟩
  · have hpat : samplePattern (fun k => lineAt ds s (s.pin a) (sampleOffset s.cfg.bitTicks k)) = 0x1FF :=
      samplePattern_congr (v' := fun _ => .mark) hmarks
    have hvalid : patValid 0x1FF = true := by decide
    have hdata : (patData 0x1FF).setWidth 8 = 0x7F := by decide
    rw [hpat] at hcharacter
    simpa only [hvalid, hdata, hroom, true_and, if_true] using hcharacter.1
  · have hinvalid := patValid_eq_false_of_stop_space
      (v := fun k => lineAt ds s (s.pin a) (sampleOffset s.cfg.bitTicks k)) hspace
    simpa [hinvalid] using hcharacter

end Sys2Proof.Machine
end

section
/-! The Shared Receive Buffer (42_buffer.md R79 to R84): Push, and the bytes and effects of the five commands that read
or drain the buffer. -/

namespace Sys2Proof.Machine

/-! ### Push (R79) -/

theorem memRead_push_head {s : State} (v : Byte) (hroom : s.count.val < 75) : memRead (push v s) s.head = v := by
  rw [push_room v s hroom]
  exact memRead_memWrite_same s s.head v

/-- Settles O22, by whether there is room. -/
theorem pushWritesHeadOrSetsOverflow : Obligations.PushWritesHeadOrSetsOverflow := by
  refine fun v s => ⟨fun hfull => push_full v s (by omega), fun hroom => ?_⟩
  have hothers : ∀ k, k ≠ s.head → memRead (push v s) k = memRead s k := fun _ => memRead_push_other v
  refine ⟨?_, ?_, memRead_push_head v hroom, hothers, ?_⟩ <;> rw [push_room v s hroom] <;> rfl

/-! ### The result words (R80, R81) -/

@[simp] theorem toNat_byteWord (b : Byte) : (byteWord b).toNat = b.toNat :=
  BitVec.toNat_setWidth_of_le (by decide)

@[simp] theorem toNat_countWord_count (s : State) : (countWord s.count.val).toNat = s.count.val :=
  (BitVec.toNat_ofNat ..).trans (Nat.mod_eq_of_lt (by omega))

/-! ### The commands on an existing instance -/

section
variable {s : State} {i : InstId} (hi : instExists s i = true)
include hi

theorem exec_available : exec (.available i) s = complete 2 (countWord s.count.val) s := onInstance_of_exists _ _ hi

theorem exec_getOverflow : exec (.getOverflow i) s = complete 2 (boolWord s.ovf) s := onInstance_of_exists _ _ hi

theorem exec_clearBuffer : exec (.clearBuffer i) s = complete 2 0 (emptyBuffer s) := onInstance_of_exists _ _ hi

theorem exec_peek_of_empty (hn : s.count.val = 0) : exec (.peek i) s = complete 2 noneWord s :=
  (onInstance_of_exists _ _ hi).trans (if_pos (Fin.ext hn))

theorem exec_peek_of_held (hn : s.count.val ≠ 0) :
    exec (.peek i) s = complete 2 (byteWord (memRead s s.tail)) s :=
  (onInstance_of_exists _ _ hi).trans (if_neg (hn ∘ congrArg Fin.val))

theorem exec_read_of_empty (hn : s.count.val = 0) : exec (.read i) s = complete 2 noneWord s :=
  (onInstance_of_exists _ _ hi).trans (if_pos (Fin.ext hn))

theorem exec_read_of_held (hn : s.count.val ≠ 0) :
    exec (.read i) s = complete 2 (byteWord (memRead s s.tail)) (dropOldest s) :=
  (onInstance_of_exists _ _ hi).trans (if_neg (hn ∘ congrArg Fin.val))

end

/-- Settles O23: the results are `count` as a word and `ovf` as a word. -/
theorem availableAndOverflowAreRead : Obligations.AvailableAndOverflowAreRead := by
  intro i s hi
  have hexists := (instExists_iff s i).mpr hi
  have hovf : ∀ b, s.ovf = b → exec (.getOverflow i) s = complete 2 (boolWord b) s := fun _ h =>
    h ▸ exec_getOverflow hexists
  exact ⟨encode_of_operandBytes_nil rfl, encode_of_operandBytes_nil rfl,
    ⟨_, toNat_countWord_count s, exec_available hexists⟩, hovf true, hovf false⟩

/-- Settles O24, by whether a byte is held. -/
theorem peekReturnsTheOldestByte : Obligations.PeekReturnsTheOldestByte := by
  intro i s hi
  have hexists := (instExists_iff s i).mpr hi
  exact ⟨encode_of_operandBytes_nil rfl, exec_peek_of_empty hexists,
    fun hn => ⟨_, toNat_byteWord _, exec_peek_of_held hexists hn⟩⟩

/-- Settles O25, by whether a byte is held; `tail` and `count` are those of the buffer without its oldest byte. -/
theorem readRemovesTheOldestByte : Obligations.ReadRemovesTheOldestByte := by
  intro i s hi
  have hexists := (instExists_iff s i).mpr hi
  exact ⟨encode_of_operandBytes_nil rfl, exec_read_of_empty hexists,
    fun hn => ⟨_, (dropOldest s).tail, (dropOldest s).count, toNat_byteWord _, rfl, rfl,
      exec_read_of_held hexists hn⟩⟩

/-- Settles O26, by the command's one effect. -/
theorem clearBufferEmptiesIt : Obligations.ClearBufferEmptiesIt := fun i s hi =>
  ⟨encode_of_operandBytes_nil rfl, exec_clearBuffer ((instExists_iff s i).mpr hi)⟩

end Sys2Proof.Machine
end

section
/-! The buffer as a bounded queue (42_buffer.md R85): the list of the bytes held under the buffer's operations, and
under any number of pushes. -/

namespace Sys2Proof.Machine

/-! ### The bytes held -/

@[simp] theorem length_bufferContents (s : State) : (bufferContents s).length = s.count.val := by
  simp [bufferContents]

theorem bufferContents_eq_nil_iff (s : State) : bufferContents s = [] ↔ s.count.val = 0 := by
  rw [← List.length_eq_zero_iff, length_bufferContents]

@[simp] theorem bufferContents_retire (len : Nat) (w : Word) (s : State) :
    bufferContents (retire len w s) = bufferContents s := rfl

@[simp] theorem bufferContents_emptyBuffer (s : State) : bufferContents (emptyBuffer s) = [] := rfl

theorem slotAfter_zero (t : Fin 75) : slotAfter t 0 = t := Fin.ext (Nat.mod_eq_of_lt t.isLt)

theorem slotAfter_nextSlot (t : Fin 75) (k : Nat) : slotAfter (nextSlot t) k = slotAfter t (k + 1) := by
  simp only [slotAfter, nextSlot, Fin.mk.injEq]
  omega

/-- The oldest byte is the one at `tail`, and READ leaves the others (R82). -/
theorem bufferContents_eq_cons {s : State} (hn : s.count.val ≠ 0) :
    bufferContents s = memRead s s.tail :: bufferContents (dropOldest s) := by
  obtain ⟨n, hcount⟩ := Nat.exists_eq_succ_of_ne_zero hn
  have hrest : bufferContents (dropOldest s) = (List.range n).map fun k => memRead s (slotAfter s.tail (k + 1)) := by
    simp only [bufferContents, dropOldest_count, dropOldest_tail, slotAfter_nextSlot, hcount, Nat.succ_sub_one]
    rfl
  rw [hrest, bufferContents, hcount, List.range_succ_eq_map, List.map_cons, List.map_map, slotAfter_zero]
  rfl

/-- Settles O27: each operation on the list of the bytes held. -/
theorem bufferIsABoundedQueue : Obligations.BufferIsABoundedQueue := by
  rintro s ⟨-, hhead, -⟩
  refine ⟨length_bufferContents s, fun v => bufferContents_push v hhead, fun i hi => ?_⟩
  have hexists := (instExists_iff s i).mpr hi
  refine ⟨fun b bs hheld => ?_, ⟨_, exec_available hexists, by simp⟩, ⟨_, exec_clearBuffer hexists, by simp⟩⟩
  have hn : s.count.val ≠ 0 := fun h => by simp [(bufferContents_eq_nil_iff s).mpr h] at hheld
  obtain ⟨holdest, hrest⟩ := List.cons.inj ((bufferContents_eq_cons hn).symm.trans hheld)
  exact ⟨⟨_, exec_read_of_held hexists hn, by simp [holdest], by simp [hrest]⟩,
    ⟨_, exec_peek_of_held hexists hn, by simp [holdest], by simp [hheld]⟩⟩

/-! ### Any number of pushes -/

/-- Push keeps R30(a) for every byte, seven bits or not. -/
theorem head_push {s : State} (v : Byte) (hhead : s.head.val = (s.tail.val + s.count.val) % 75) :
    (push v s).head.val = ((push v s).tail.val + (push v s).count.val) % 75 := by
  by_cases hroom : s.count.val < 75
  · rw [push_room v s hroom]
    simp only [memWrite_tail, nextSlot]
    omega
  · rwa [push_full v s hroom]

theorem count_push (v : Byte) (s : State) : (push v s).count.val = min (s.count.val + 1) 75 := by
  by_cases hroom : s.count.val < 75
  · rw [push_room v s hroom]
    simp only
    omega
  · rw [push_full v s hroom]
    simp only
    omega

/-- Once 75 bytes are held, the pushes that follow leave them as they are. -/
theorem bufferContents_pushes (vs : List Byte) : ∀ {s : State}, s.head.val = (s.tail.val + s.count.val) % 75 →
    bufferContents (vs.foldl (fun u v => push v u) s) = (bufferContents s ++ vs).take 75 := by
  induction vs with
  | nil =>
    intro s _
    rw [List.append_nil, List.take_of_length_le (by rw [length_bufferContents]; omega)]
    rfl
  | cons v vs ih =>
    intro s hhead
    rw [List.foldl_cons, ih (head_push v hhead), bufferContents_push v hhead]
    split
    · rw [List.append_assoc, List.singleton_append]
    · have hfull : 75 ≤ (bufferContents s).length := by rw [length_bufferContents]; omega
      rw [List.take_append_of_le_length hfull, List.take_append_of_le_length hfull]

/-- The flag is sticky, and set by the first push beyond 75. -/
theorem ovf_pushes (vs : List Byte) : ∀ s : State,
    (vs.foldl (fun u v => push v u) s).ovf = (s.ovf || decide (75 < s.count.val + vs.length)) := by
  induction vs with
  | nil =>
    intro s
    have hbound : ¬75 < s.count.val := by omega
    simp [hbound]
  | cons v vs ih =>
    intro s
    have hsplit : 75 < s.count.val + (v :: vs).length ↔
        s.count.val = 75 ∨ 75 < min (s.count.val + 1) 75 + vs.length := by
      rw [List.length_cons]
      omega
    rw [List.foldl_cons, ih, ovf_push_eq, count_push, Bool.or_assoc, decide_eq_decide.mpr hsplit, Bool.decide_or]

/-- Settles O28: any pushes, from the empty list and a clear flag. -/
theorem overflowKeepsTheFirstBytes : Obligations.OverflowKeepsTheFirstBytes := by
  rintro vs s ⟨-, hhead, -⟩ hempty hovf
  rw [bufferContents_pushes vs hhead, ovf_pushes, (bufferContents_eq_nil_iff s).mpr hempty, hempty, hovf]
  simp

end Sys2Proof.Machine
end

section
/-! The registry and the instance queries (43_registry.md R86 to R90): the bytes of their commands, and what each does
in each case of its own checks. -/

namespace Sys2Proof

/-- A command's bytes are its word's two and then its operands (R48). -/
theorem encode_eq_word_append (c : Instr) :
    encode c = [c.imm, (c.opcode.setWidth 8 <<< 3) ||| BitVec.ofNat 8 c.inst.val] ++ c.operandBytes := by
  rw [encode, Instr.cw, halfBytes_commandWord]

/-- The bytes of an operand word as shifts of it (R35). -/
theorem wordBytes_eq_shifts (w : Word) :
    wordBytes w = [w.setWidth 8, (w >>> 8).setWidth 8, (w >>> 16).setWidth 8, (w >>> 24).setWidth 8] := by
  rw [BitVec.setWidth_eq_extractLsb' (by decide : 8 ≤ 32)]
  simp only [wordBytes, BitVec.setWidth_ushiftRight_eq_extractLsb]

end Sys2Proof

namespace Sys2Proof.Machine

/-! ### The commands on an existing instance -/

section
variable {s : State} {i : InstId} (hi : instExists s i = true)
include hi

theorem exec_setActive_of_disabled (hst : s.st i = .disabled) :
    exec (.setActive i) s = raise .state (Instr.setActive i).cw s :=
  (onInstance_of_exists _ _ hi).trans (if_pos hst)

theorem exec_setActive_of_other_transmitting (hst : s.st i ≠ .disabled) (htx : s.txBusy = true ∧ s.txInst ≠ i) :
    exec (.setActive i) s = raise .activeTx (Instr.setActive i).cw s :=
  (onInstance_of_exists _ _ hi).trans ((if_neg hst).trans (if_pos htx))

/-- Past the two faults, the answer turns on the registry and the assembly (R86). -/
theorem exec_setActive_of_allowed (hst : s.st i ≠ .disabled) (htx : ¬(s.txBusy = true ∧ s.txInst ≠ i)) :
    exec (.setActive i) s =
      if s.reg = some i then complete 2 0 s
      else if s.rxBusy then complete 2 2 s
      else complete 2 1 { s with reg := some i } :=
  (onInstance_of_exists _ _ hi).trans ((if_neg hst).trans (if_neg htx))

theorem exec_isActive : exec (.isActive i) s = complete 2 (boolWord (s.reg == some i)) s := onInstance_of_exists _ _ hi

theorem exec_getDataPin : exec (.getDataPin i) s = complete 2 (byteWord (s.pin i)) s := onInstance_of_exists _ _ hi

theorem exec_setTimeout (v : Word) : exec (.setTimeout i v) s = complete 6 0 (s.setTmo i v) :=
  onInstance_of_exists _ _ hi

theorem exec_getTimeout : exec (.getTimeout i) s = complete 2 (s.tmo i) s := onInstance_of_exists _ _ hi

end

/-- Settles O18, by the two faults and then the three answers. -/
theorem setActiveInstallsOrRefuses : Obligations.SetActiveInstallsOrRefuses := by
  intro i s hi
  have hexists := (instExists_iff s i).mpr hi
  refine ⟨encode_of_operandBytes_nil rfl, exec_setActive_of_disabled hexists,
    fun ⟨hst, htx⟩ => exec_setActive_of_other_transmitting hexists hst htx, fun ⟨hst, htx⟩ => ?_⟩
  rw [exec_setActive_of_allowed hexists hst htx]
  refine ⟨fun hreg => if_pos hreg, fun ⟨hreg, hrx⟩ => (if_neg hreg).trans (if_pos hrx), fun ⟨hreg, hrx⟩ => ?_⟩
  exact (if_neg hreg).trans (if_neg (Bool.eq_false_iff.mp hrx))

/-- Settles O19: the result is whether `reg` is i, as a word. -/
theorem isActiveQueriesTheRegistry : Obligations.IsActiveQueriesTheRegistry := by
  intro i s hi
  have hresult : ∀ b, (s.reg == some i) = b → exec (.isActive i) s = complete 2 (boolWord b) s := fun _ h =>
    h ▸ exec_isActive ((instExists_iff s i).mpr hi)
  exact ⟨encode_of_operandBytes_nil rfl, fun hreg => hresult true (beq_iff_eq.mpr hreg),
    fun hreg => hresult false (beq_eq_false_iff_ne.mpr hreg)⟩

/-- Settles O20: the result is `pin[i]` as a word. -/
theorem getDataPinReturnsThePin : Obligations.GetDataPinReturnsThePin := fun i s hi =>
  ⟨encode_of_operandBytes_nil rfl, _, toNat_byteWord (s.pin i), exec_getDataPin ((instExists_iff s i).mpr hi)⟩

/-- Settles O21: `tmo[i]` is written as it is given, and read as it is. -/
theorem timeoutIsStoredAndReadBack : Obligations.TimeoutIsStoredAndReadBack := by
  refine ⟨fun i v s hi => ⟨?_, _, exec_setTimeout ((instExists_iff s i).mpr hi) v, rfl, ?_⟩,
    fun i s hi => ⟨encode_of_operandBytes_nil rfl, exec_getTimeout ((instExists_iff s i).mpr hi)⟩⟩
  · rw [encode_eq_word_append, Instr.operandBytes, wordBytes_eq_shifts]
    rfl
  · simp

end Sys2Proof.Machine
end

section
/-! The transmit commands (44_transmitter.md R93 to R96): their bytes, and what each does in each case of StartTx. -/

namespace Sys2Proof.Machine

/-! ### What is driven of a segment list (R93) -/

theorem driveable_cons (l : Level) (n : Nat) (gs : List Seg) :
    driveable (⟨l, n⟩ :: gs) = (if n = 0 then [] else [⟨l, n⟩]) ++ driveable gs := by
  by_cases hn : n = 0 <;> simp [driveable, hn, Nat.pos_iff_ne_zero]

theorem driveable_responseSegs {p : Params} (hok : p.ok) (text : List Byte) :
    driveable (responseSegs p text) =
      (if p.respMarkTicks = 0 then [] else [⟨.mark, p.respMarkTicks⟩]) ++ text.flatMap (charSegs p.bitTicks) := by
  rw [responseSegs, driveable_cons, driveable_textSegs _ _ (bitTicks_pos hok), textSegs]

theorem breakTicks_pos {p : Params} (hok : p.ok) : 0 < p.breakTicks := by
  obtain ⟨-, -, -, ⟨hbreak, -⟩, -⟩ := hok
  exact hbreak

theorem driveable_commandSegs {p : Params} (hok : p.ok) (text : List Byte) :
    driveable (commandSegs p text) = ⟨.space, p.breakTicks⟩ ::
      ((if p.wakeMarkTicks = 0 then [] else [⟨.mark, p.wakeMarkTicks⟩]) ++ text.flatMap (charSegs p.bitTicks)) := by
  rw [commandSegs, driveable_cons, driveable_cons, driveable_textSegs _ _ (bitTicks_pos hok), textSegs,
    if_neg (breakTicks_pos hok).ne', List.singleton_append]

/-! ### StartTx and EndOfFrame (R93, R98) -/

theorem startTx_of_disabled {s : State} {i : InstId} (segs : List Seg) (cw : Half) (len : Nat)
    (hst : s.st i = .disabled) : startTx i segs cw len s = raise .state cw s := if_pos hst

theorem startTx_of_driveable_cons {s : State} {i : InstId} {segs gs : List Seg} {g : Seg} (cw : Half) (len : Nat)
    (hst : s.st i ≠ .disabled) (hd : driveable segs = g :: gs) :
    startTx i segs cw len s = .next (beginFrame i g gs len (leaveListening i s)) := by
  rw [startTx, if_neg hst, hd]

theorem startTx_of_driveable_nil {s : State} {i : InstId} {segs : List Seg} (cw : Half) (len : Nat)
    (hst : s.st i ≠ .disabled) (hd : driveable segs = []) :
    startTx i segs cw len s = .next (endOfFrame i len ((leaveListening i s).setSt i .transmitting)) := by
  rw [startTx, if_neg hst, hd]

/-- Only the assembly registers can change, and only to be cleared (R58). -/
theorem leaveListening_eq_update (i : InstId) (s : State) :
    leaveListening i s =
      let drop := decide (s.st i = .listening ∧ s.reg = some i ∧ s.rxBusy = true)
      { s with
        rxBusy := if drop then false else s.rxBusy
        rxN := if drop then 0 else s.rxN
        rxPat := if drop then 0 else s.rxPat } := by
  by_cases h : s.st i = .listening ∧ s.reg = some i ∧ s.rxBusy = true
  · rw [leaveListening_of_receiving h, decide_eq_true h]
    rfl
  · rw [leaveListening_of_not_receiving h, decide_eq_false h]
    rfl

/-- Of two line states written one after the other the second stays. -/
theorem setSt_setSt (s : State) (i : InstId) (v w : LineState) : (s.setSt i v).setSt i w = s.setSt i w := by
  simp [State.setSt]

/-! ### The commands on an existing instance -/

section
variable {s : State} {i : InstId} (hi : instExists s i = true)
include hi

theorem exec_write (c : Byte) :
    exec (.write i c) s = startTx i (charSegs s.cfg.bitTicks c) (Instr.write i c).cw 2 s :=
  onInstance_of_exists _ _ hi

theorem exec_sendCommand (text : List Byte) :
    exec (.sendCommand i text) s =
      startTx i (commandSegs s.cfg text) (Instr.sendCommand i text).cw (2 + text.length) s :=
  onInstance_of_exists _ _ hi

theorem exec_sendResponse (text : List Byte) :
    exec (.sendResponse i text) s =
      startTx i (responseSegs s.cfg text) (Instr.sendResponse i text).cw (2 + text.length) s :=
  onInstance_of_exists _ _ hi

end

/-- Settles O36: no segment of a character is empty, so the frame of the character is taken whole. -/
theorem writeStartsOneFrame : Obligations.WriteStartsOneFrame := by
  intro i c s hi hbit
  rw [exec_write ((instExists_iff s i).mpr hi)]
  refine ⟨encode_of_operandBytes_nil rfl, startTx_of_disabled _ _ _, fun hst => ?_⟩
  rw [startTx_of_driveable_cons _ _ hst (driveable_charSegs _ c hbit), leaveListening_eq_update]
  rfl

/-- Settles O37: the break is never empty (R6), so it is the first segment taken. -/
theorem sendCommandStartsTheWakeSequence : Obligations.SendCommandStartsTheWakeSequence := by
  intro i text s hi hok
  rw [exec_sendCommand ((instExists_iff s i).mpr hi)]
  refine ⟨encode_eq_word_append _, startTx_of_disabled _ _ _, fun hst => ?_⟩
  rw [startTx_of_driveable_cons _ _ hst (driveable_commandSegs hok text), leaveListening_eq_update]
  rfl

/-- Settles O38, by whether R93 leaves a segment to drive. -/
theorem sendResponseMarksThenSends : Obligations.SendResponseMarksThenSends := by
  intro i text s hi hok
  rw [exec_sendResponse ((instExists_iff s i).mpr hi)]
  refine ⟨encode_eq_word_append _, startTx_of_disabled _ _ _, fun hst => ?_⟩
  have hdriven := driveable_responseSegs hok text
  refine ⟨fun g gs hsegs => ?_, fun ⟨hmark, htext⟩ => ?_⟩
  · rw [startTx_of_driveable_cons _ _ hst (hdriven.trans hsegs), leaveListening_eq_update]
    rfl
  · have hnone : driveable (responseSegs s.cfg text) = [] := by rw [hdriven, hmark, htext]; rfl
    rw [startTx_of_driveable_nil _ _ hst hnone, endOfFrame, setSt_setSt, leaveListening_eq_update, htext]
    rfl

end Sys2Proof.Machine
end

section
/-! The transmit phase against a whole tick (44_transmitter.md R97, R98): the other phases neither read nor write what
it does. -/

namespace Sys2Proof.Machine

/-- All that the transmit phase reads and writes. -/
abbrev SameTransmitter (t s : State) : Prop :=
  (t.txBusy = s.txBusy ∧ t.txInst = s.txInst ∧ t.txSegs = s.txSegs ∧ t.txLeft = s.txLeft ∧ t.txLen = s.txLen) ∧
  t.insts = s.insts ∧ t.res = s.res ∧ t.reslog = s.reslog ∧ t.cp = s.cp

theorem transmitPhase_of_idle {s : State} (hidle : s.txBusy = false) : transmitPhase s = s := by
  simp [transmitPhase, hidle]

theorem transmitPhase_of_left {s : State} (hbusy : s.txBusy = true) (hleft : s.txLeft ≠ 1) :
    transmitPhase s = { s with txLeft := s.txLeft - 1 } := by
  obtain ⟨hidle, -⟩ | ⟨-, -, heq⟩ | ⟨-, hone, -⟩ | ⟨-, hone, -⟩ := transmitPhase_cases s
  · exact absurd (hidle.symm.trans hbusy) Bool.false_ne_true
  · exact heq
  · exact absurd hone hleft
  · exact absurd hone hleft

theorem transmitPhase_of_next_segment {s : State} {g : Seg} {gs : List Seg} (hbusy : s.txBusy = true)
    (hleft : s.txLeft = 1) (hsegs : s.txSegs.tail = g :: gs) :
    transmitPhase s = { s with txSegs := g :: gs, txLeft := segTicks g } := by
  simp [transmitPhase, hbusy, hleft, hsegs]

theorem transmitPhase_of_last_segment {s : State} (hbusy : s.txBusy = true) (hleft : s.txLeft = 1)
    (hsegs : s.txSegs.tail = []) : transmitPhase s = endOfFrame s.txInst s.txLen s := by
  simp [transmitPhase, hbusy, hleft, hsegs]

theorem SameTransmitter.transmitPhase {s t : State} (h : SameTransmitter t s) :
    SameTransmitter (transmitPhase t) (transmitPhase s) := by
  have hsame := h
  obtain ⟨⟨hbusy, hinst, hsegs, hleft, hlen⟩, hinsts, hres, hreslog, hcp⟩ := h
  obtain ⟨hb, heq⟩ | ⟨hb, hne, heq⟩ | ⟨hb, hone, g, gs, htail, heq⟩ | ⟨hb, hone, htail, heq⟩ := transmitPhase_cases s
  · rwa [heq, transmitPhase_of_idle (hbusy.trans hb)]
  · rw [heq, transmitPhase_of_left (hbusy.trans hb) (hleft.trans_ne hne)]
    exact ⟨⟨hbusy, hinst, hsegs, by simp only [hleft], hlen⟩, hinsts, hres, hreslog, hcp⟩
  · rw [heq, transmitPhase_of_next_segment (hbusy.trans hb) (hleft.trans hone) (hsegs ▸ htail)]
    exact ⟨⟨hbusy, hinst, rfl, rfl, hlen⟩, hinsts, hres, hreslog, hcp⟩
  · rw [heq, transmitPhase_of_last_segment (hbusy.trans hb) (hleft.trans hone) (hsegs ▸ htail)]
    simp [SameTransmitter, hinst, hlen, hinsts, hreslog, hcp]

theorem tick_sameTransmitter (d : Draw) (s : State) : SameTransmitter (tick d s) (transmitPhase s) :=
  SameTransmitter.transmitPhase (t := rememberPhase (pinLevel d s) (interruptPhase (pinLevel d s)
    (samplePhase (pinLevel d s) s))) (by simp [SameTransmitter])

/-- Settles O39, by the cases of the transmit phase. -/
theorem tickAdvancesTheTransmitter : Obligations.TickAdvancesTheTransmitter := by
  intro d s
  obtain ⟨⟨hbusy, -, hsegs, hleft, -⟩, hinsts, hres, hreslog, hcp⟩ := tick_sameTransmitter d s
  rw [hbusy, hsegs, hleft, hinsts, hres, hreslog, hcp]
  refine ⟨fun hidle => ?_, fun ⟨hb, hne⟩ => ?_, fun g0 g gs ⟨hb, hone, hlist⟩ => ?_, fun g0 ⟨hb, hone, hlist⟩ => ?_⟩
  · rw [transmitPhase_of_idle hidle]
    exact ⟨hidle, rfl, rfl, rfl, rfl, rfl, rfl⟩
  · rw [transmitPhase_of_left hb hne]
    exact ⟨hb, rfl, rfl, rfl, rfl, rfl, rfl⟩
  · rw [transmitPhase_of_next_segment hb hone (congrArg List.tail hlist)]
    exact ⟨hb, rfl, rfl, rfl, rfl, rfl, rfl⟩
  · rw [transmitPhase_of_last_segment hb hone (congrArg List.tail hlist)]
    exact ⟨rfl, rfl, rfl, rfl, rfl, rfl, rfl⟩

end Sys2Proof.Machine
end

section
/-! The line as the list of its levels, one a tick (44_transmitter.md R97, 20_memory.md R41): what a transmission
drives, and what a pin carries in a run of ticks. -/

namespace Sys2Proof.Machine

/-! ### What a segment list drives -/

/-- The levels a segment list drives, one a tick (R97). -/
def waveform (segs : List Seg) : List Level := segs.flatMap fun g => List.replicate g.ticks g.level

@[simp] theorem waveform_nil : waveform [] = [] := rfl

@[simp] theorem waveform_cons (g : Seg) (gs : List Seg) :
    waveform (g :: gs) = List.replicate g.ticks g.level ++ waveform gs := rfl

theorem waveform_append (segs segs' : List Seg) : waveform (segs ++ segs') = waveform segs ++ waveform segs' :=
  List.flatMap_append

theorem length_waveform (segs : List Seg) : (waveform segs).length = totalTicks segs := by
  induction segs with
  | nil => rfl
  | cons g gs ih => rw [waveform_cons, List.length_append, List.length_replicate, ih, totalTicks]

theorem getElem?_waveform (segs : List Seg) (t : Nat) : (waveform segs)[t]? = levelAt segs t := by
  induction segs generalizing t with
  | nil => rfl
  | cons g gs ih =>
    rw [waveform_cons, levelAt, List.getElem?_append, List.length_replicate, ih]
    split
    · next hlt => rw [List.getElem?_replicate_of_lt hlt]
    · rfl

theorem waveform_driveable (segs : List Seg) : waveform (driveable segs) = waveform segs :=
  List.ext_getElem? fun t => by rw [getElem?_waveform, getElem?_waveform, levelAt_driveable]

/-! ### What a pin carries -/

/-- The levels pin p carries in a run of ticks from s, one a tick. -/
def lineLevels (ds : List Draw) (s : State) (p : PinId) : List Level := (List.range ds.length).map (lineAt ds s p)

@[simp] theorem lineLevels_nil (s : State) (p : PinId) : lineLevels [] s p = [] := rfl

@[simp] theorem lineLevels_cons (d : Draw) (ds : List Draw) (s : State) (p : PinId) :
    lineLevels (d :: ds) s p = pinLevel d s p :: lineLevels ds (tick d s) p := by
  rw [lineLevels, List.length_cons, List.range_succ_eq_map, List.map_cons, List.map_map]
  rfl

@[simp] theorem length_lineLevels (ds : List Draw) (s : State) (p : PinId) :
    (lineLevels ds s p).length = ds.length := by
  simp [lineLevels]

theorem getElem?_lineLevels {ds : List Draw} {t : Nat} (ht : t < ds.length) (s : State) (p : PinId) :
    (lineLevels ds s p)[t]? = some (lineAt ds s p t) := by
  simp [lineLevels, ht]

theorem lineLevels_append (ds ds' : List Draw) (s : State) (p : PinId) :
    lineLevels (ds ++ ds') s p = lineLevels ds s p ++ lineLevels ds' (runTicks ds s) p := by
  induction ds generalizing s with
  | nil => rfl
  | cons d ds ih => rw [List.cons_append, lineLevels_cons, ih, lineLevels_cons, List.cons_append, runTicks]

/-- A run on a line of two stretches is two runs. -/
theorem exists_runs_of_lineLevels_eq_append {ds : List Draw} {s : State} {p : PinId} {ls ls' : List Level}
    (h : lineLevels ds s p = ls ++ ls') :
    ∃ ds₁ ds₂, ds = ds₁ ++ ds₂ ∧ lineLevels ds₁ s p = ls ∧ lineLevels ds₂ (runTicks ds₁ s) p = ls' := by
  have hlen : ls.length ≤ ds.length := by
    rw [← length_lineLevels ds s p, h, List.length_append]
    exact Nat.le_add_right _ _
  have hds : ds = ds.take ls.length ++ ds.drop ls.length := (List.take_append_drop _ ds).symm
  refine ⟨_, _, hds, ?_⟩
  rw [hds, lineLevels_append] at h
  exact List.append_inj h (by simpa using hlen)

/-! ### What every tick keeps -/

@[simp] theorem tick_pin (d : Draw) (s : State) (i : InstId) : (tick d s).pin i = s.pin i := by simp [tick]

@[simp] theorem tick_reg (d : Draw) (s : State) : (tick d s).reg = s.reg := by simp [tick]

@[simp] theorem runTicks_cfg (ds : List Draw) (s : State) : (runTicks ds s).cfg = s.cfg := by
  induction ds generalizing s with
  | nil => rfl
  | cons d ds ih => rw [runTicks, ih, tick_cfg]

@[simp] theorem runTicks_pin (ds : List Draw) (s : State) (i : InstId) : (runTicks ds s).pin i = s.pin i := by
  induction ds generalizing s with
  | nil => rfl
  | cons d ds ih => rw [runTicks, ih, tick_pin]

/-! ### The only driver of a net (R41) -/

/-- Instance i exists and is on net n, and no other instance drives that net. -/
structure OnlyDriver (i : InstId) (n : Nat) (s : State) : Prop where
  admitted : i.val < s.cfg.nInst
  net : netOf s.cfg (s.pin i) = n
  others : ∀ j : InstId, j ≠ i → drives s j = true → netOf s.cfg (s.pin j) ≠ n

/-- A tick lets no instance begin to drive. -/
theorem drives_of_drives_tick {d : Draw} {s : State} {j : InstId} (h : drives (tick d s) j = true) :
    drives s j = true := by
  obtain heq | ⟨-, -, hlisten⟩ := tick_st d s j
  · rwa [drives, heq] at h
  · simp [drives, hlisten] at h

theorem OnlyDriver.tick {i : InstId} {n : Nat} {s : State} (h : OnlyDriver i n s) (d : Draw) :
    OnlyDriver i n (tick d s) where
  admitted := by simpa using h.admitted
  net := by simpa using h.net
  others j hj hdrives := by simpa using h.others j hj (drives_of_drives_tick hdrives)

theorem drives_of_drv {s : State} {i : InstId} {v : Level} (h : drv s i = some v) : drives s i = true := by
  cases hst : s.st i <;> simp [drv, drives, hst] at h ⊢

theorem pinLevel_of_onlyDriver {d : Draw} {s : State} {i : InstId} {p : PinId} {v : Level}
    (h : OnlyDriver i (netOf s.cfg p) s) (hdrv : drv s i = some v) (hext : extDrive d (netOf s.cfg p) = .release) :
    pinLevel d s p = v := by
  refine resolve_of_agree _ _ ((mem_netVals_iff ..).mpr (.inl ⟨i, h.admitted, h.net, hdrv⟩)) fun w hw => ?_
  obtain ⟨j, -, hnet, hj⟩ | hdrive := (mem_netVals_iff ..).mp hw
  · obtain rfl : j = i := by_contra fun hne => h.others j hne (drives_of_drv hj) hnet
    exact Option.some.inj (hj.symm.trans hdrv)
  · exact absurd (hext.symm.trans hdrive) Drive.noConfusion

/-! ### A transmission in progress (R93, R97) -/

/-- Instance i is TRANSMITTING, and `ls` are the levels it has still to drive, one a tick. -/
structure Sending (i : InstId) (ls : List Level) (s : State) : Prop where
  busy : s.txBusy = true
  inst : s.txInst = i
  st : s.st i = .transmitting
  range : ∀ g ∈ s.txSegs, 0 < g.ticks ∧ g.ticks < 2 ^ 32
  left : 0 < s.txLeft.toNat
  levels : ∃ g gs, s.txSegs = g :: gs ∧ ls = List.replicate s.txLeft.toNat g.level ++ waveform gs

theorem sending_beginFrame {i : InstId} {g : Seg} {gs : List Seg} (len : Nat) (s : State)
    (hrange : ∀ x ∈ g :: gs, 0 < x.ticks ∧ x.ticks < 2 ^ 32) :
    Sending i (waveform (g :: gs)) (beginFrame i g gs len s) := by
  obtain ⟨hpos, hlt⟩ := hrange g List.mem_cons_self
  have hleft : (beginFrame i g gs len s).txLeft.toNat = g.ticks := toNat_segTicks hlt
  exact {
    busy := rfl
    inst := rfl
    st := by simp
    range := hrange
    left := hleft ▸ hpos
    levels := ⟨g, gs, rfl, by rw [hleft, waveform_cons]⟩ }

section
variable {i : InstId} {l : Level} {ls : List Level} {s : State}

/-- The level driven is the first of those left. -/
theorem Sending.drv (h : Sending i (l :: ls) s) : drv s i = some l := by
  obtain ⟨g, gs, hsegs, hlevels⟩ := h.levels
  obtain ⟨n, hn⟩ := Nat.exists_eq_add_one.mpr h.left
  rw [hn, List.replicate_succ, List.cons_append] at hlevels
  simp [Machine.drv, h.st, hsegs, (List.cons.inj hlevels).1]

/-- A transmission is in the registers the transmit phase works on. -/
theorem Sending.congr {t : State} (h : Sending i ls s) (hsame : SameTransmitter t s) : Sending i ls t := by
  obtain ⟨⟨hbusy, hinst, hsegs, hleft, -⟩, hinsts, -⟩ := hsame
  exact {
    busy := hbusy.trans h.busy
    inst := hinst.trans h.inst
    st := (regs_congr _ _ hinsts i).1.trans h.st
    range := hsegs ▸ h.range
    left := hleft ▸ h.left
    levels := by simpa only [hsegs, hleft] using h.levels }

/-- The transmit phase counts the level driven, and ends the frame only with the last one. -/
theorem Sending.transmitPhase (h : Sending i (l :: ls) s) (hmore : ls ≠ []) : Sending i ls (transmitPhase s) := by
  obtain ⟨g, gs, hsegs, hlevels⟩ := h.levels
  obtain ⟨n, hn⟩ := Nat.exists_eq_add_one.mpr h.left
  rw [hn, List.replicate_succ, List.cons_append] at hlevels
  have hls := (List.cons.inj hlevels).2
  by_cases hone : s.txLeft = 1
  · obtain rfl : n = 0 := by simpa [hone] using hn
    have hgs : gs ≠ [] := by rintro rfl; exact hmore hls
    obtain ⟨g', gs', rfl⟩ := List.exists_cons_of_ne_nil hgs
    have hmem : ∀ x ∈ g' :: gs', 0 < x.ticks ∧ x.ticks < 2 ^ 32 := fun x hx =>
      h.range x (hsegs ▸ List.mem_cons_of_mem g hx)
    obtain ⟨hpos, hlt⟩ := hmem g' List.mem_cons_self
    have hticks := toNat_segTicks hlt
    rw [transmitPhase_of_next_segment h.busy hone (congrArg List.tail hsegs)]
    exact {
      busy := h.busy, inst := h.inst, st := h.st, range := hmem, left := hticks.symm ▸ hpos
      levels := ⟨g', gs', rfl, by rw [hls, hticks]; rfl⟩ }
  · have hsub : (s.txLeft - 1).toNat = n := (BitVec.toNat_sub_of_le h.left).trans (by rw [hn]; rfl)
    have hpos : 0 < n := Nat.pos_of_ne_zero fun h0 => hone (BitVec.eq_of_toNat_eq (by simp [hn, h0]))
    rw [transmitPhase_of_left h.busy hone]
    exact {
      busy := h.busy, inst := h.inst, st := h.st, range := h.range, left := hsub.symm ▸ hpos
      levels := ⟨g, gs, hsegs, by rw [hls, hsub]⟩ }

theorem Sending.tick (h : Sending i (l :: ls) s) (hmore : ls ≠ []) (d : Draw) : Sending i ls (tick d s) :=
  (h.transmitPhase hmore).congr (tick_sameTransmitter d s)

end

/-- A net with one driver carries what that driver sends. -/
theorem lineLevels_of_sending {ds : List Draw} {i : InstId} {ls : List Level} {s : State} {p : PinId}
    (h : Sending i ls s) (honly : OnlyDriver i (netOf s.cfg p) s)
    (hext : ∀ d ∈ ds, extDrive d (netOf s.cfg p) = .release) (hlen : ds.length = ls.length) :
    lineLevels ds s p = ls := by
  induction ds generalizing s ls with
  | nil => exact (List.eq_nil_of_length_eq_zero hlen.symm).symm
  | cons d ds ih =>
    cases ls with
    | nil => exact absurd hlen (Nat.succ_ne_zero _)
    | cons l ls =>
      obtain ⟨hd, hds⟩ := List.forall_mem_cons.mp hext
      rw [lineLevels_cons, pinLevel_of_onlyDriver honly h.drv hd]
      refine congrArg (l :: ·) ?_
      by_cases hmore : ls = []
      · subst hmore
        rw [List.eq_nil_of_length_eq_zero (Nat.succ.inj hlen), lineLevels_nil]
      · exact ih (h.tick hmore d) (by simpa using honly.tick d) (by simpa using hds) (Nat.succ.inj hlen)

end Sys2Proof.Machine
end

section
/-! The armed receiver on a known line (41_receiver.md R68 to R75): what the levels of its pin, one a tick, put into
the buffer. -/

namespace Sys2Proof.Machine

/-! ### Waiting for a start edge -/

theorem armed_tick {s : State} {i : InstId} (d : Draw) (h : armed s i = true) : armed (tick d s) i = true := by
  obtain ⟨hreg, hst⟩ := (armed_iff s i).mp h
  refine (armed_iff _ i).mpr ⟨(tick_reg d s).trans hreg, ?_⟩
  obtain heq | ⟨-, -, hlisten⟩ := tick_st d s i
  · exact heq.trans hst
  · exact hlisten

theorem armed_runTicks {s : State} {i : InstId} (ds : List Draw) (h : armed s i = true) :
    armed (runTicks ds s) i = true := by
  induction ds generalizing s with
  | nil => exact h
  | cons d ds ih => exact ih (armed_tick d h)

/-- The edge detector remembers the level of every pin there is (R68). -/
theorem prevLevel_tick {s : State} {p : PinId} (d : Draw) (hp : p.toNat < s.cfg.nPins) :
    prevLevel (tick d s) p = pinLevel d s p := by
  simp [prevLevel, tick, rememberPhase, hp]

theorem prevLevel_runTicks_take_succ {ds : List Draw} {s : State} {p : PinId} {t : Nat} (ht : t < ds.length)
    (hp : p.toNat < s.cfg.nPins) : prevLevel (runTicks (ds.take (t + 1)) s) p = lineAt ds s p t := by
  rw [runTicks_take_succ ht, prevLevel_tick _ (by simpa using hp), lineAt]

/-- Instance a is armed on an existing pin and no character is being received; the level remembered is v. -/
structure Waiting (a : InstId) (v : Level) (s : State) : Prop where
  ok : s.cfg.ok
  armed : armed s a = true
  idle : s.rxBusy = false
  pin : (s.pin a).toNat < s.cfg.nPins
  prev : prevLevel s (s.pin a) = v

/-- Two levels that are not MARK and then SPACE: no start edge (R70). -/
def NoFall (v w : Level) : Prop := v = .mark → w = .mark

theorem fall_eq_false_of_noFall {lvl : PinId → Level} {s : State} {p : PinId}
    (h : NoFall (prevLevel s p) (lvl p)) : fall lvl s p = false := by
  refine Bool.eq_false_iff.mpr fun hfall => ?_
  obtain ⟨hmark, hspace⟩ := (fall_iff lvl s p).mp hfall
  exact Level.noConfusion (hspace.symm.trans (h hmark))

section
variable {a : InstId} {v : Level} {s : State} {ds : List Draw}

theorem Waiting.tick (h : Waiting a v s) (d : Draw) (hfall : NoFall v (pinLevel d s (s.pin a))) :
    Waiting a (pinLevel d s (s.pin a)) (tick d s) ∧ SameBuffer (tick d s) s := by
  have hrx : interruptPhase (pinLevel d s) (samplePhase (pinLevel d s) s) = s := by
    rw [samplePhase_of_idle _ h.idle]
    refine interruptPhase_of_no_fall _ fun b harm => .inr ?_
    rw [armed_unique h.armed harm]
    exact fall_eq_false_of_noFall (by rwa [h.prev])
  refine ⟨⟨by simpa using h.ok, armed_tick d h.armed, ?_, by simpa using h.pin, ?_⟩, ?_⟩
  · simpa [Machine.tick, hrx] using h.idle
  · rw [tick_pin, prevLevel_tick d h.pin]
  · exact (tick_sameBuffer_samplePhase d s).trans (by rw [samplePhase_of_idle _ h.idle]; simp [SameBuffer])

/-- A line that stays at one level, and does not fall to it, leaves the receiver waiting and the buffer as it was. -/
theorem Waiting.runTicks_replicate {k : Nat} {w : Level} (h : Waiting a v s) (hfall : NoFall v w)
    (hline : lineLevels ds s (s.pin a) = List.replicate k w) :
    Waiting a (if k = 0 then v else w) (runTicks ds s) ∧ SameBuffer (runTicks ds s) s := by
  induction k generalizing v s ds with
  | zero =>
    obtain rfl : ds = [] := List.eq_nil_of_length_eq_zero (by simpa using congrArg List.length hline)
    exact ⟨h, rfl, rfl, rfl, rfl, rfl⟩
  | succ k ih =>
    cases ds with
    | nil => exact absurd (congrArg List.length hline) (by simp)
    | cons d ds =>
      rw [lineLevels_cons, List.replicate_succ] at hline
      obtain ⟨hlevel, hrest⟩ := List.cons.inj hline
      obtain ⟨hwait, hbuffer⟩ := h.tick d (hlevel ▸ hfall)
      rw [hlevel] at hwait
      obtain ⟨hwait', hbuffer'⟩ := ih hwait id (by simpa using hrest)
      exact ⟨by simpa [runTicks] using hwait', hbuffer'.trans hbuffer⟩

/-- A line that stays as it is. -/
theorem Waiting.runTicks_still {k : Nat} (h : Waiting a v s)
    (hline : lineLevels ds s (s.pin a) = List.replicate k v) :
    Waiting a v (runTicks ds s) ∧ SameBuffer (runTicks ds s) s := by
  simpa using h.runTicks_replicate id hline

/-! ### A start edge and nine samples -/

/-- The ninth sample ends the assembly, and unless the line falls in its tick no other begins (R73, R110). -/
theorem Assembling.rxBusy_tick {smp : Nat → Level} {u : State}
    (h : Assembling s a smp (sampleOffset s.cfg.bitTicks 8) u) (d : Draw) (hok : s.cfg.ok)
    (hfall : NoFall (prevLevel u (s.pin a)) (pinLevel d u (s.pin a))) : (tick d u).rxBusy = false := by
  have hn := h.rxN_eq_eight hok
  have hdue : elapsed u = sampleOffset u.cfg.bitTicks u.rxN.val := by rw [h.time, h.cfg, hn]
  have hended : (samplePhase (pinLevel d u) u).rxBusy = false := by
    rw [samplePhase_of_due _ h.reg h.busy hdue, takeSample_of_eq_eight _ hn]
    rfl
  have hrx : interruptPhase (pinLevel d u) (samplePhase (pinLevel d u) u) = samplePhase (pinLevel d u) u := by
    refine interruptPhase_of_no_fall _ fun b harm => .inr (fall_eq_false_of_noFall ?_)
    obtain rfl : a = b := Option.some.inj (by simpa [h.reg] using ((armed_iff _ b).mp harm).1)
    simpa [prevLevel, h.pin] using hfall
  simpa [tick, hrx] using hended

/-- From a start edge to the ninth sample: the samples decide what is pushed, and the receiver waits again. -/
theorem Waiting.runTicks_frame (h : Waiting a .mark s) (hlen : ds.length = sampleOffset s.cfg.bitTicks 8 + 1)
    (hstart : lineAt ds s (s.pin a) 0 = .space)
    (hend : NoFall (lineAt ds s (s.pin a) (sampleOffset s.cfg.bitTicks 8 - 1))
      (lineAt ds s (s.pin a) (sampleOffset s.cfg.bitTicks 8))) :
    let pat := samplePattern (fun k => lineAt ds s (s.pin a) (sampleOffset s.cfg.bitTicks k))
    Waiting a (lineAt ds s (s.pin a) (sampleOffset s.cfg.bitTicks 8)) (runTicks ds s) ∧
    SameBuffer (runTicks ds s) (if patValid pat = true then push ((patData pat).setWidth 8) s else s) := by
  have hpos : 1 ≤ sampleOffset s.cfg.bitTicks 8 := sampleOffset_pos (bitTicks_pos h.ok) 8
  have hassembling := assembling_runTicks h.ok h.armed h.idle hlen h.prev hstart hpos le_rfl
  have hlast : runTicks ds s = runTicks (ds.take (sampleOffset s.cfg.bitTicks 8 + 1)) s := by
    rw [← hlen, List.take_length]
  have hbefore : prevLevel (runTicks (ds.take (sampleOffset s.cfg.bitTicks 8)) s) (s.pin a) =
      lineAt ds s (s.pin a) (sampleOffset s.cfg.bitTicks 8 - 1) := by
    rw [← prevLevel_runTicks_take_succ (by omega) h.pin, Nat.sub_add_cancel hpos]
  refine ⟨{
    ok := by simpa using h.ok
    armed := armed_runTicks ds h.armed
    idle := ?_
    pin := by simpa using h.pin
    prev := by rw [hlast, runTicks_pin, prevLevel_runTicks_take_succ (by omega) h.pin] },
    sameBuffer_runTicks_character h.ok h.armed h.idle hlen h.prev hstart⟩
  rw [hlast, runTicks_take_succ (by omega)]
  exact hassembling.rxBusy_tick _ h.ok (hbefore ▸ hend)

end

end Sys2Proof.Machine
end

section
/-! What one instance sends the armed instance on its net receives (44_transmitter.md R101): the break and the marking
put nothing into the buffer, and each character of the text is pushed. -/

namespace Sys2Proof.Machine

/-! ### The levels of a character (R91) -/

/-- Sampled with its own bit period, a character is valid and gives its data bits back (R76). -/
theorem samplePattern_of_charSegs {w : Nat} (hw : 1 ≤ w) (c : Byte) {line : Nat → Level}
    (hline : ∀ {t l}, t ≤ sampleOffset w 8 → levelAt (charSegs w c) t = some l → line t = l) :
    let pat := samplePattern fun k => line (sampleOffset w k)
    patValid pat = true ∧ patData pat = c.setWidth 7 := by
  refine sampledWaveformIsTheCharacter.1 w w c (fun k _ => sampleOffset_in_frame_bit hw k) _ fun k hk => ?_
  obtain ⟨hlo, hhi⟩ := sampleOffset_in_frame_bit hw k
  have hsample := levelAt_charSegs c hk hlo hhi
  rw [hline ((sampleOffset_strictMono hw).monotone hk) hsample, hsample]

/-- A character is its levels up to the ninth sample and then MARK. -/
theorem waveform_charSegs_eq_append (w : Nat) (c : Byte) :
    waveform (charSegs w c) = (waveform (charSegs w c)).take (sampleOffset w 8 + 1) ++
      List.replicate (10 * w - (sampleOffset w 8 + 1)) .mark := by
  have hlen : (waveform (charSegs w c)).length = 10 * w := (length_waveform _).trans (totalTicks_charSegs w c)
  have hrest : (waveform (charSegs w c)).drop (sampleOffset w 8 + 1) =
      List.replicate (10 * w - (sampleOffset w 8 + 1)) .mark := by
    refine List.eq_replicate_iff.mpr ⟨by rw [List.length_drop, hlen], fun l hl => ?_⟩
    obtain ⟨t, ht, rfl⟩ := List.mem_iff_getElem.mp hl
    rw [List.length_drop, hlen] at ht
    refine Option.some.inj ?_
    rw [← List.getElem?_eq_getElem, List.getElem?_drop, getElem?_waveform]
    exact levelAt_charSegs c (k := 8) le_rfl (by simp only [sampleOffset]; omega) (by omega)
  rw [← hrest, List.take_append_drop]

section
variable {a : InstId} {s : State} {ds : List Draw}

/-- The line at a tick of a stretch whose levels are known. -/
theorem lineAt_of_lineLevels {p : PinId} {ls : List Level} {l : Level} {t : Nat} (h : lineLevels ds s p = ls)
    (hl : ls[t]? = some l) : lineAt ds s p t = l := by
  subst h
  have ht := (List.getElem?_eq_some_iff.mp hl).1
  rw [length_lineLevels] at ht
  exact Option.some.inj ((getElem?_lineLevels ht s p).symm.trans hl)

/-- A character with bit 7 clear is received (R76, R91). -/
theorem Waiting.runTicks_character {c : Byte} (h : Waiting a .mark s) (hc : c.toNat < 0x80)
    (hline : lineLevels ds s (s.pin a) = waveform (charSegs s.cfg.bitTicks c)) :
    Waiting a .mark (runTicks ds s) ∧ SameBuffer (runTicks ds s) (push c s) := by
  have hw := bitTicks_pos h.ok
  obtain ⟨hlo, hhi⟩ := sampleOffset_in_frame_bit hw 8
  obtain ⟨ds₁, ds₂, rfl, hframe, hstop⟩ :=
    exists_runs_of_lineLevels_eq_append (hline.trans (waveform_charSegs_eq_append _ c))
  have hlen : ds₁.length = sampleOffset s.cfg.bitTicks 8 + 1 := by
    rw [← length_lineLevels ds₁ s (s.pin a), hframe, List.length_take, length_waveform, totalTicks_charSegs]
    omega
  have hlevel : ∀ {t l}, t ≤ sampleOffset s.cfg.bitTicks 8 → levelAt (charSegs s.cfg.bitTicks c) t = some l →
      lineAt ds₁ s (s.pin a) t = l := fun ht hl =>
    lineAt_of_lineLevels hframe (by rw [List.getElem?_take_of_lt (Nat.lt_succ_of_le ht), getElem?_waveform, hl])
  have hstart : lineAt ds₁ s (s.pin a) 0 = .space := hlevel (Nat.zero_le _) (if_pos hw)
  have hend : lineAt ds₁ s (s.pin a) (sampleOffset s.cfg.bitTicks 8) = .mark :=
    hlevel le_rfl (levelAt_charSegs c le_rfl hlo hhi)
  obtain ⟨hvalid, hdata⟩ := samplePattern_of_charSegs hw c hlevel
  have hbyte : (c.setWidth 7).setWidth 8 = c := by
    apply BitVec.eq_of_toNat_eq
    simp only [BitVec.toNat_setWidth]
    omega
  obtain ⟨hwait, hbuffer⟩ := h.runTicks_frame hlen hstart fun _ => hend
  rw [hend] at hwait
  rw [if_pos hvalid, hdata, hbyte] at hbuffer
  obtain ⟨hwait', hbuffer'⟩ := hwait.runTicks_still (by simpa using hstop)
  rw [runTicks_append]
  exact ⟨hwait', hbuffer'.trans hbuffer⟩

/-- A break is discarded, whether or not its beginning is a start edge (R73). -/
theorem Waiting.runTicks_break {v : Level} {k : Nat} (h : Waiting a v s)
    (hk : sampleOffset s.cfg.bitTicks 8 + 1 ≤ k)
    (hline : lineLevels ds s (s.pin a) = List.replicate k .space) :
    Waiting a .space (runTicks ds s) ∧ SameBuffer (runTicks ds s) s := by
  cases v with
  | space => exact h.runTicks_still hline
  | mark =>
    obtain ⟨m, rfl⟩ := Nat.exists_eq_add_of_le hk
    obtain ⟨ds₁, ds₂, rfl, hframe, hrest⟩ :=
      exists_runs_of_lineLevels_eq_append (hline.trans (List.replicate_add ..))
    have hlen : ds₁.length = sampleOffset s.cfg.bitTicks 8 + 1 := by
      rw [← length_lineLevels ds₁ s (s.pin a), hframe, List.length_replicate]
    have hspace : ∀ {t}, t ≤ sampleOffset s.cfg.bitTicks 8 → lineAt ds₁ s (s.pin a) t = .space := fun ht =>
      lineAt_of_lineLevels hframe (List.getElem?_replicate_of_lt (Nat.lt_succ_of_le ht))
    have hbefore : lineAt ds₁ s (s.pin a) (sampleOffset s.cfg.bitTicks 8 - 1) = .space := hspace (Nat.sub_le _ _)
    obtain ⟨hwait, hbuffer⟩ := h.runTicks_frame hlen (hspace (Nat.zero_le _))
      fun hmark => absurd (hbefore.symm.trans hmark) Level.noConfusion
    have hinvalid := patValid_eq_false_of_stop_space
      (v := fun k => lineAt ds₁ s (s.pin a) (sampleOffset s.cfg.bitTicks k)) (hspace le_rfl)
    rw [hspace le_rfl] at hwait
    rw [if_neg (Bool.eq_false_iff.mp hinvalid)] at hbuffer
    obtain ⟨hwait', hbuffer'⟩ := hwait.runTicks_still (by simpa using hrest)
    rw [runTicks_append]
    exact ⟨hwait', hbuffer'.trans hbuffer⟩

theorem sameBuffer_pushes {t : State} (text : List Byte) (h : SameBuffer t s) :
    SameBuffer (text.foldl (fun u c => push c u) t) (text.foldl (fun u c => push c u) s) := by
  induction text generalizing s t with
  | nil => exact h
  | cons c text ih => exact ih (sameBuffer_push c h)

/-- A text is received character by character (R92). -/
theorem Waiting.runTicks_text {text : List Byte} (h : Waiting a .mark s) (hbytes : ∀ c ∈ text, c.toNat < 0x80)
    (hline : lineLevels ds s (s.pin a) = waveform (textSegs s.cfg.bitTicks text)) :
    SameBuffer (runTicks ds s) (text.foldl (fun u c => push c u) s) := by
  induction text generalizing s ds with
  | nil => exact (h.runTicks_still (k := 0) hline).2
  | cons c text ih =>
    obtain ⟨hc, htext⟩ := List.forall_mem_cons.mp hbytes
    rw [textSegs, List.flatMap_cons, ← textSegs, waveform_append] at hline
    obtain ⟨ds₁, ds₂, rfl, hchar, hrest⟩ := exists_runs_of_lineLevels_eq_append hline
    obtain ⟨hwait, hbuffer⟩ := h.runTicks_character hc hchar
    rw [runTicks_append]
    exact (ih hwait htext (by simpa using hrest)).trans (sameBuffer_pushes text hbuffer)

/-- Break, marking and text (R95): the text is what is pushed. -/
theorem Waiting.runTicks_command {v : Level} {text : List Byte} (h : Waiting a v s)
    (hbreak : sampleOffset s.cfg.bitTicks 8 + 1 ≤ s.cfg.breakTicks) (hwake : 1 ≤ s.cfg.wakeMarkTicks)
    (hbytes : ∀ c ∈ text, c.toNat < 0x80)
    (hline : lineLevels ds s (s.pin a) = waveform (commandSegs s.cfg text)) :
    SameBuffer (runTicks ds s) (text.foldl (fun u c => push c u) s) := by
  rw [commandSegs, waveform_cons, waveform_cons] at hline
  obtain ⟨ds₁, ds', rfl, hspace, hline⟩ := exists_runs_of_lineLevels_eq_append hline
  obtain ⟨ds₂, ds₃, rfl, hmark, htext⟩ := exists_runs_of_lineLevels_eq_append hline
  obtain ⟨hwait, hbuffer⟩ := h.runTicks_break hbreak hspace
  obtain ⟨hwait', hbuffer'⟩ := hwait.runTicks_replicate (w := .mark) (fun _ => rfl) (by simpa using hmark)
  rw [if_neg (Nat.ne_of_gt hwake)] at hwait'
  rw [runTicks_append, runTicks_append]
  exact (hwait'.runTicks_text hbytes (by simpa using htext)).trans (sameBuffer_pushes text (hbuffer'.trans hbuffer))

end

/-! ### The start of the transmission (R93) -/

section
variable {i : InstId} {g : Seg} {gs : List Seg} {s : State} (len : Nat)

theorem sending_of_driveable {segs : List Seg} (hrange : ∀ x ∈ segs, x.ticks < 2 ^ 32)
    (hd : driveable segs = g :: gs) : Sending i (waveform segs) (beginFrame i g gs len s) := by
  rw [← waveform_driveable, hd]
  refine sending_beginFrame len s fun x hx => ?_
  obtain ⟨hmem, hpos⟩ := (mem_driveable_iff x segs).mp (hd ▸ hx)
  exact ⟨hpos, hrange x hmem⟩

theorem OnlyDriver.beginFrame {n : Nat} (h : OnlyDriver i n s) : OnlyDriver i n (beginFrame i g gs len s) where
  admitted := h.admitted
  net := by simpa using h.net
  others j hj hdrives := by simpa using h.others j hj (by simpa [drives, hj] using hdrives)

/-- A transmission of another instance does not disturb a receiver that waits. -/
theorem Waiting.beginFrame {b : InstId} {v : Level} (h : Waiting b v s) (hb : b ≠ i) :
    Waiting b v (beginFrame i g gs len s) where
  ok := h.ok
  armed := by simpa [Machine.armed, hb] using h.armed
  idle := h.idle
  pin := by simpa using h.pin
  prev := by simpa [prevLevel] using h.prev

end

theorem totalTicks_commandSegs (p : Params) (text : List Byte) :
    totalTicks (commandSegs p text) = p.breakTicks + p.wakeMarkTicks + 10 * p.bitTicks * text.length := by
  rw [commandSegs, totalTicks, totalTicks, totalTicks_textSegs, Nat.add_assoc]

/-- Settles O42: on the net only A drives, so B's pin carries the break, the marking and the text, and of these the
characters of the text are pushed. -/
theorem roundTripBetweenTwoInstances : Obligations.RoundTripBetweenTwoInstances := by
  intro s a b text hok ⟨_, hhead, _⟩ hne ha hst harm hidle hpin hnet hothers hbreak hwake hbytes hroom
  obtain ⟨g, gs, hdriven⟩ : ∃ g gs, driveable (commandSegs s.cfg text) = g :: gs :=
    ⟨_, _, driveable_commandSegs hok text⟩
  have hleave : leaveListening a s = s := leaveListening_of_not_receiving fun ⟨_, _, hbusy⟩ =>
    Bool.false_ne_true (hidle.symm.trans hbusy)
  have hrange : ∀ x ∈ commandSegs s.cfg text, x.ticks < 2 ^ 32 :=
    ticks_lt_of_mem_sent (c := .sendCommand a text) hok (.inr (.inl ⟨text, rfl, rfl⟩))
  have honly : OnlyDriver a (netOf s.cfg (s.pin b)) s := ⟨ha, hnet, hothers⟩
  have hwait : Waiting b (prevLevel s (s.pin b)) s := ⟨hok, harm, hidle, hpin, rfl⟩
  refine ⟨beginFrame a g gs (2 + text.length) s, ?_, fun ds hlen hext => ?_⟩
  · rw [exec_sendCommand ((instExists_iff s a).mpr ha), startTx_of_driveable_cons _ _ hst hdriven, hleave]
  have hline := lineLevels_of_sending (ds := ds) (p := s.pin b)
    (sending_of_driveable (2 + text.length) hrange hdriven) (honly.beginFrame _) hext
    (by rw [hlen, length_waveform, totalTicks_commandSegs])
  have hpushed := ((hwait.beginFrame (2 + text.length) hne.symm).runTicks_command hbreak hwake hbytes
    (by simpa using hline)).trans (sameBuffer_pushes (s := s) text ⟨rfl, rfl, rfl, rfl, rfl⟩)
  have hcontents := hpushed.contents_eq
  obtain ⟨-, -, -, -, hovf⟩ := hpushed
  rw [hcontents, hovf, bufferContents_pushes text hhead, ovf_pushes, List.take_of_length_le (by simpa using hroom)]
  simp [Nat.not_lt_of_le hroom]

end Sys2Proof.Machine
end

section
/-! Precise faults (60_exceptions.md R103): what a HostStep records is the command word at `cp`, be it the decoder that
rejects the command or the command's own rule. -/

namespace Sys2Proof

/-- Whichever of its checks fails, the decoder records the word it was given (R51). -/
theorem cw_of_decodeWord_error {cw : Half} {rest : List Byte} {r : Reject} (h : decodeWord cw rest = .error r) :
    r.cw = cw := by
  obtain ⟨hopcode, htrunc, hfield, hok⟩ := decodeWord_checks cw rest
  have hrecords : ∀ k, decodeWord cw rest = .error ⟨k, cw⟩ → r.cw = cw := fun _ hk =>
    (Except.error.inj (h.symm.trans hk)) ▸ rfl
  by_cases hr : ReservedOp cw
  · exact hrecords _ (hopcode hr)
  by_cases hs : TooShort cw rest
  · exact hrecords _ (htrunc ⟨hr, hs⟩)
  by_cases hn : NonzeroField cw
  · exact hrecords _ (hfield ⟨hr, hs, hn⟩)
  · obtain ⟨c, hc⟩ := hok ⟨hr, hs, hn⟩
    cases h.symm.trans hc

end Sys2Proof

namespace Sys2Proof.Machine

theorem cw_of_fetch_error {s : State} {r : Reject} (h : fetch s = .error r) : r.cw = wordAtCp s := by
  unfold fetch at h
  unfold wordAtCp
  generalize fetchBytes s = bytes at h ⊢
  obtain _ | ⟨b0, _ | ⟨b1, rest⟩⟩ := bytes
  · cases h; rfl
  · cases h; rfl
  · exact cw_of_decodeWord_error h

theorem cw_of_fetch_ok {s : State} {c : Instr} (h : fetch s = .ok c) : c.cw = wordAtCp s := by
  obtain ⟨-, tail, hbytes⟩ := decode_eq_ok_iff.mp h
  rw [wordAtCp, hbytes]
  exact (half_of_bytes c.cw).symm

/-- Only a fault writes the fault registers, and it writes nothing else. -/
theorem CommandEffect.faultRegisters {c : Instr} {s t : State} (he : CommandEffect s c t) :
    (t.fault = s.fault ∧ t.faultCw = s.faultCw ∧ t.faultCp = s.faultCp) ∨ ∃ k, t = raiseFault k c.cw s := by
  cases he with
  | faulted k => exact .inr ⟨k, rfl⟩
  | _ => left; simp

theorem hostStep_faultRegisters {s t : State} (h : hostStep s = .next t) :
    (t.fault = s.fault ∧ t.faultCw = s.faultCw ∧ t.faultCp = s.faultCp) ∨
      ∃ k, t = raiseFault k (wordAtCp s) s := by
  obtain ⟨r, hfetch, rfl⟩ | ⟨c, hfetch, hexec⟩ := hostStep_cases h
  · exact .inr ⟨r.cause, by rw [cw_of_fetch_error hfetch]⟩
  · exact cw_of_fetch_ok hfetch ▸ (exec_effect hexec).faultRegisters

theorem halted_iff (s : State) : halted s = true ↔ s.fault ≠ none := by
  simp [halted, Option.isSome_iff_ne_none]

/-- Settles O8: a HostStep always answers, and a fault of the decoder or of the command records the word at `cp`; step
asks for a recorded fault first. -/
theorem faultsArePreciseAndHalt : Obligations.FaultsArePreciseAndHalt := by
  refine ⟨fun s => ?_, fun s hfault => step_of_halted ((halted_iff s).mpr hfault)⟩
  obtain ⟨t, ht⟩ := hostStep_next s
  exact ⟨t, ht, hostStep_faultRegisters ht⟩

end Sys2Proof.Machine
end

section
/-! A transmission tick by tick (44_transmitter.md R93 to R98, 70_reset_and_hazards.md R131): what HOST waits for, and a
sender that does not hear itself (R127). -/

namespace Sys2Proof.Machine

/-! ### The transmit commands and their segments (R94, R95, R96) -/

/-- Command c of instance i transmits these segments. -/
inductive Transmits (p : Params) (i : InstId) : Instr → List Seg → Prop where
  | write (b : Byte) : Transmits p i (.write i b) (charSegs p.bitTicks b)
  | sendCommand (text : List Byte) : Transmits p i (.sendCommand i text) (commandSegs p text)
  | sendResponse (text : List Byte) : Transmits p i (.sendResponse i text) (responseSegs p text)

theorem totalTicks_responseSegs (p : Params) (text : List Byte) :
    totalTicks (responseSegs p text) = p.respMarkTicks + 10 * p.bitTicks * text.length := by
  rw [responseSegs, totalTicks, totalTicks_textSegs]

section
variable {s : State} {i : InstId} {c : Instr} {segs : List Seg} (h : Transmits s.cfg i c segs)
include h

theorem Transmits.exec (hi : i.val < s.cfg.nInst) : exec c s = startTx i segs c.cw c.length s := by
  have hexists := (instExists_iff s i).mpr hi
  cases h with
  | write b => exact exec_write hexists b
  | sendCommand text => exact exec_sendCommand hexists text
  | sendResponse text => exact exec_sendResponse hexists text

theorem Transmits.ticks_lt (hok : s.cfg.ok) : ∀ g ∈ segs, g.ticks < 2 ^ 32 := by
  cases h with
  | write b => exact ticks_lt_of_mem_sent (c := .write i b) hok (.inl ⟨b, rfl, rfl⟩)
  | sendCommand text => exact ticks_lt_of_mem_sent (c := .sendCommand i text) hok (.inr (.inl ⟨text, rfl, rfl⟩))
  | sendResponse text => exact ticks_lt_of_mem_sent (c := .sendResponse i text) hok (.inr (.inr ⟨text, rfl, rfl⟩))

end

/-! ### The levels of a transmission in progress (R97) -/

section
variable {i : InstId} {l : Level} {ls : List Level} {s : State}

theorem Sending.ne_nil (h : Sending i ls s) : ls ≠ [] := by
  obtain ⟨g, gs, -, rfl⟩ := h.levels
  simp [h.left.ne']

/-- With the last level goes the last segment. -/
theorem Sending.last (h : Sending i [l] s) : s.txLeft = 1 ∧ s.txSegs.tail = [] := by
  obtain ⟨g, gs, hsegs, hlevels⟩ := h.levels
  have hlen := congrArg List.length hlevels
  rw [List.length_append, List.length_replicate, length_waveform, List.length_singleton] at hlen
  have hleft := h.left
  have hgs : gs = [] := List.eq_nil_iff_forall_not_mem.mpr fun x hx => by
    have hpos := (h.range x (hsegs ▸ List.mem_cons_of_mem g hx)).1
    obtain ⟨gs₁, gs₂, rfl⟩ := List.append_of_mem hx
    rw [totalTicks_append, totalTicks] at hlen
    omega
  subst hgs
  exact ⟨BitVec.eq_of_toNat_eq (by simpa [totalTicks] using hlen.symm), by rw [hsegs, List.tail_cons]⟩

/-- The tick of the last level ends the frame (R98). -/
theorem tick_of_sending_last (h : Sending i [l] s) (d : Draw) :
    SameTransmitter (tick d s) (endOfFrame i s.txLen s) := by
  obtain ⟨hone, htail⟩ := h.last
  have hsame := tick_sameTransmitter d s
  rwa [transmitPhase_of_last_segment h.busy hone htail, h.inst] at hsame

end

/-- HOST gets its answer only when the transmission ends (R97, R98). -/
theorem transmitPhase_pending {s : State} (hbusy : (transmitPhase s).txBusy = true) :
    (transmitPhase s).txLen = s.txLen ∧ (transmitPhase s).reslog = s.reslog ∧ (transmitPhase s).cp = s.cp := by
  obtain ⟨-, heq⟩ | ⟨-, -, heq⟩ | ⟨-, -, g, gs, -, heq⟩ | ⟨-, -, -, heq⟩ := transmitPhase_cases s
  · exact heq.symm ▸ ⟨rfl, rfl, rfl⟩
  · exact heq.symm ▸ ⟨rfl, rfl, rfl⟩
  · exact heq.symm ▸ ⟨rfl, rfl, rfl⟩
  · rw [heq] at hbusy
    exact absurd hbusy Bool.false_ne_true

theorem tick_pending {d : Draw} {s : State} (hbusy : (tick d s).txBusy = true) :
    (tick d s).txLen = s.txLen ∧ (tick d s).reslog = s.reslog ∧ (tick d s).cp = s.cp := by
  obtain ⟨⟨hb, -, -, -, hlen⟩, -, -, hreslog, hcp⟩ := tick_sameTransmitter d s
  rw [hlen, hreslog, hcp]
  exact transmitPhase_pending (hb ▸ hbusy)

/-! ### A transmit command while it lasts (R53, R93, R97, R98) -/

/-- Where a transmit command of `len` bytes that instance i began in s stands in t, with the levels that it has still to
drive: HOST waits while there are any, and has its answer when there are none. -/
def Remaining (i : InstId) (len : Nat) (s : State) : List Level → State → Prop
  | [], t => t.txBusy = false ∧ t.st i = .listening ∧ t.res = 0 ∧ t.reslog = s.reslog ++ [0] ∧
      t.cp = s.cp + BitVec.ofNat 32 len
  | l :: ls, t => Sending i (l :: ls) t ∧ t.txLen = len ∧ t.reslog = s.reslog ∧ t.cp = s.cp

section
variable {i : InstId} {len : Nat} {l : Level} {ls : List Level} {s t : State}

theorem remaining_of_sending (h : Sending i ls t) (hlen : t.txLen = len) (hreslog : t.reslog = s.reslog)
    (hcp : t.cp = s.cp) : Remaining i len s ls t := by
  obtain ⟨l, ls, rfl⟩ := List.exists_cons_of_ne_nil h.ne_nil
  exact ⟨h, hlen, hreslog, hcp⟩

/-- A tick drives one level. -/
theorem remaining_tick (h : Remaining i len s (l :: ls) t) (d : Draw) : Remaining i len s ls (tick d t) := by
  obtain ⟨hsending, hlen, hreslog, hcp⟩ := h
  by_cases hmore : ls = []
  · subst hmore
    obtain ⟨⟨hbusy, -⟩, hinsts, hres, hreslog', hcp'⟩ := tick_of_sending_last hsending d
    have hst := (regs_congr _ _ hinsts i).1
    refine ⟨hbusy, by simpa using hst, hres, ?_, ?_⟩
    · rw [hreslog', endOfFrame_reslog, hreslog]
    · rw [hcp', endOfFrame_cp, hcp, hlen]
  · have hnext := hsending.tick hmore d
    obtain ⟨hlen', hreslog', hcp'⟩ := tick_pending hnext.busy
    exact remaining_of_sending hnext (hlen'.trans hlen) (hreslog'.trans hreslog) (hcp'.trans hcp)

theorem remaining_runTicks {ds : List Draw} (h : Remaining i len s ls t) (hds : ds.length ≤ ls.length) :
    Remaining i len s (ls.drop ds.length) (runTicks ds t) := by
  induction ds generalizing ls t with
  | nil => exact h
  | cons d ds ih =>
    cases ls with
    | nil => exact absurd hds (Nat.not_succ_le_zero _)
    | cons l ls => exact ih (remaining_tick h d) (Nat.le_of_succ_le_succ hds)

/-- While levels remain, the instance is TRANSMITTING and drives the next of them. -/
theorem Remaining.sending {ds : List Draw} (h : Remaining i len s ls t) (hds : ds.length < ls.length) :
    Sending i (ls.drop ds.length) (runTicks ds t) ∧ drv (runTicks ds t) i = ls[ds.length]? ∧
      (runTicks ds t).reslog = s.reslog := by
  have hrun := remaining_runTicks h hds.le
  rw [List.drop_eq_getElem_cons hds] at hrun ⊢
  obtain ⟨hsending, -, hreslog, -⟩ := hrun
  exact ⟨hsending, hsending.drv.trans (List.getElem?_eq_getElem hds).symm, hreslog⟩

/-- After as many ticks as there were levels the frame has ended. -/
theorem Remaining.ended {ds : List Draw} (h : Remaining i len s ls t) (hds : ds.length = ls.length) :
    Remaining i len s [] (runTicks ds t) := by
  simpa [hds] using remaining_runTicks h hds.le

end

/-- The receiver's registers that StartTx leaves when it has dropped the assembly (R93). -/
abbrev SameReceiver (t s : State) : Prop := t.reg = s.reg ∧ t.rxBusy = s.rxBusy ∧ SameBuffer t s

/-- StartTx has the whole waveform before it; a list with nothing to drive is sent at once (R93, R98). -/
theorem startTx_remaining {s : State} {i : InstId} {segs : List Seg} (cw : Half) (len : Nat)
    (hrange : ∀ g ∈ segs, g.ticks < 2 ^ 32) (hst : s.st i ≠ .disabled) :
    ∃ t, startTx i segs cw len s = .next t ∧ Remaining i len s (waveform segs) t ∧
      SameReceiver t (leaveListening i s) := by
  cases hd : driveable segs with
  | nil =>
    refine ⟨_, startTx_of_driveable_nil cw len hst hd, ?_, by simp [SameReceiver, SameBuffer]⟩
    rw [← waveform_driveable, hd]
    simp [Remaining]
  | cons g gs =>
    exact ⟨_, startTx_of_driveable_cons cw len hst hd,
      remaining_of_sending (sending_of_driveable len hrange hd) rfl (by simp) (by simp),
      by simp [SameReceiver, SameBuffer]⟩

/-- Settles O40: the levels that remain are the waveform of the segments, one a tick. -/
theorem transmissionLastsItsTicks : Obligations.TransmissionLastsItsTicks := by
  intro i s c segs n hok hi hst hc
  obtain ⟨hsends, rfl⟩ : Transmits s.cfg i c segs ∧ totalTicks segs = n := by
    obtain ⟨b, rfl, rfl, rfl⟩ | ⟨text, rfl, rfl, rfl⟩ | ⟨text, rfl, rfl, rfl⟩ := hc
    · exact ⟨.write b, totalTicks_charSegs ..⟩
    · exact ⟨.sendCommand text, totalTicks_commandSegs ..⟩
    · exact ⟨.sendResponse text, totalTicks_responseSegs ..⟩
  obtain ⟨t, ht, hleft, -⟩ := startTx_remaining c.cw c.length (hsends.ticks_lt hok) hst
  refine ⟨t, (hsends.exec hi).trans ht, fun ds hds => ?_, fun ds hds => ?_⟩ <;> rw [← length_waveform] at hds
  · obtain ⟨hsending, hdrv, hreslog⟩ := hleft.sending hds
    exact ⟨hsending.busy, hsending.st, hdrv.trans (getElem?_waveform ..), hreslog⟩
  · exact hleft.ended hds

/-! ### The sender's own receiver (R127) -/

/-- Instance i is the active one, no character is being received, and t holds the buffer of s. -/
structure Deaf (i : InstId) (s t : State) : Prop where
  reg : t.reg = some i
  idle : t.rxBusy = false
  buffer : SameBuffer t s

section
variable {i : InstId} {len : Nat} {ls : List Level} {s t : State}

/-- Nothing is received in a tick in which the active instance does not listen (R26, R69). -/
theorem Deaf.tick (h : Deaf i s t) (hst : t.st i ≠ .listening) (d : Draw) : Deaf i s (tick d t) := by
  have hunarmed : ∀ a, armed t a = false := fun a => Bool.eq_false_iff.mpr fun harm => by
    obtain ⟨hreg, hlisten⟩ := (armed_iff t a).mp harm
    exact hst (Option.some.inj (h.reg.symm.trans hreg) ▸ hlisten)
  have heq := tick_of_unarmed d hunarmed h.idle
  exact {
    reg := (tick_reg d t).trans h.reg
    idle := by rw [heq]; simpa using h.idle
    buffer := by rw [heq]; simpa [SameBuffer] using h.buffer }

theorem Deaf.runTicks {ds : List Draw} (h : Deaf i s t) (hleft : Remaining i len s ls t)
    (hds : ds.length ≤ ls.length) : Deaf i s (runTicks ds t) := by
  induction ds generalizing ls t with
  | nil => exact h
  | cons d ds ih =>
    cases ls with
    | nil => exact absurd hds (Nat.not_succ_le_zero _)
    | cons l ls =>
      have hst : t.st i ≠ .listening := by simp [hleft.1.st]
      exact ih (h.tick hst d) (remaining_tick hleft d) (Nat.le_of_succ_le_succ hds)

/-- Leaving LISTENING drops the only assembly that R30(d) lets there be. -/
theorem deaf_leaveListening (hreg : s.reg = some i) (h : AssemblyInv s) : Deaf i s (leaveListening i s) where
  reg := by simpa using hreg
  idle := by
    refine Bool.eq_false_iff.mpr fun hbusy => leaveListening_not_armed_of_rxBusy hbusy ?_
    obtain ⟨a, harm⟩ := (assemblyInv_leaveListening i h).1 hbusy
    have ha := ((armed_iff _ a).mp harm).1
    rw [leaveListening_reg, hreg] at ha
    exact Option.some.inj ha ▸ harm
  buffer := by simp [SameBuffer]

theorem Deaf.congr {u : State} (h : Deaf i s t) (hsame : SameReceiver u t) : Deaf i s u :=
  have ⟨hreg, hidle, hbuffer⟩ := hsame
  { reg := hreg.trans h.reg, idle := hidle.trans h.idle, buffer := hbuffer.trans h.buffer }

end

/-- Settles O41: the active instance is TRANSMITTING until its last tick, and so hears nothing. -/
theorem ownTransmissionIsNotReceived : Obligations.OwnTransmissionIsNotReceived := by
  intro i s c n ⟨hok, henabled, hassembly, _⟩ hi hreg hc
  obtain ⟨segs, hsends, rfl⟩ : ∃ segs, Transmits s.cfg i c segs ∧ totalTicks segs = n := by
    obtain ⟨b, rfl, rfl⟩ | ⟨text, rfl, rfl⟩ | ⟨text, rfl, rfl⟩ := hc
    · exact ⟨_, .write b, totalTicks_charSegs ..⟩
    · exact ⟨_, .sendCommand text, totalTicks_commandSegs ..⟩
    · exact ⟨_, .sendResponse text, totalTicks_responseSegs ..⟩
  obtain ⟨t, ht, hleft, hsame⟩ := startTx_remaining c.cw c.length (hsends.ticks_lt hok) (henabled.1 i hreg)
  have hdeaf := (deaf_leaveListening hreg hassembly).congr hsame
  refine ⟨t, (hsends.exec hi).trans ht, fun ds hds => ?_, fun ds hds => ?_⟩ <;> rw [← length_waveform] at hds
  · obtain ⟨hsending, -⟩ := hleft.sending hds
    simp [armed, hsending.st]
  · obtain ⟨hreg', hidle, hbuffer⟩ := hdeaf.runTicks hleft hds.le
    obtain ⟨-, hlisten, -⟩ := hleft.ended hds
    exact ⟨(armed_iff _ i).mpr ⟨hreg', hlisten⟩, hidle, hbuffer⟩

end Sys2Proof.Machine
end

section
/-! Whose step it is (70_reset_and_hazards.md R121, R123): HOST's, with the turn and a command left to run, or the
tick's. -/

namespace Sys2Proof.Machine

theorem hostEnabled_iff (s : State) :
    hostEnabled s = true ↔ s.fault = none ∧ s.txBusy = false ∧ s.cp.toNat < s.stream.length := by
  simp [hostEnabled, halted, hostBusy, and_assoc]

theorem runEnded_iff (s : State) :
    runEnded s = true ↔ s.fault = none ∧ s.txBusy = false ∧ s.cp.toNat = s.stream.length := by
  simp [runEnded, halted, and_assoc]

theorem step_of_host {s : State} (hturn : (nextInput s).hostTurn = true) (hhost : hostEnabled s = true) :
    step s = hostStep (dropInput s) := by
  obtain ⟨hrun, -⟩ := (hostEnabled_iff s).mp hhost
  simp [step, halted, hrun, hturn, hhost]

theorem step_of_no_host {s : State} (hrun : s.fault = none)
    (hhost : ¬((nextInput s).hostTurn = true ∧ hostEnabled s = true)) :
    step s = .next (tick (nextInput s).draw (dropInput s)) := by
  rw [step, if_neg (by simp [halted, hrun]), if_neg (by simpa using hhost)]

/-- Settles O6: the decoder reads the command back from its encoding (O3), and taking the input moves neither `cp` nor
the stream. -/
theorem stepRunsTheCommandAtCp : Obligations.StepRunsTheCommandAtCp := by
  intro s c rest hrun hidle hcp hturn henc hbytes
  rw [step_of_host hturn ((hostEnabled_iff s).mpr ⟨hrun, hidle, hcp⟩)]
  refine hostStep_of_decode_ok ?_
  rw [dropInput_stream, dropInput_cp, hbytes]
  exact decodeInvertsEncode c rest henc

/-- Settles O7: each of the three conditions keeps HOST from going. -/
theorem stepTicksOtherwise : Obligations.StepTicksOtherwise := by
  intro s hrun hwhy
  refine step_of_no_host hrun fun ⟨hturn, hhost⟩ => ?_
  obtain ⟨-, hidle, hcp⟩ := (hostEnabled_iff s).mp hhost
  obtain hno | hbusy | hend := hwhy
  · exact absurd (hno.symm.trans hturn) Bool.false_ne_true
  · exact absurd (hidle.symm.trans hbusy) Bool.false_ne_true
  · exact absurd hcp hend.not_gt

/-- Settles O10: at the end of a run no command is left (O7). -/
theorem runEndLeavesOnlyTicks : Obligations.RunEndLeavesOnlyTicks := by
  intro s
  refine ⟨fun h => ?_, fun hfault => Bool.eq_false_iff.mpr fun h => hfault ((runEnded_iff s).mp h).1⟩
  obtain ⟨hrun, -, hend⟩ := (runEnded_iff s).mp h
  exact stepTicksOtherwise s hrun (.inr (.inr hend.ge))

end Sys2Proof.Machine
end

section
/-! The state after reset (70_reset_and_hazards.md R118). -/

namespace Sys2Proof.Machine

section
variable (p : Params) (prog : List Byte)

theorem resetWith_insts (i : InstId) : (State.resetWith p prog).insts[i] = InstRegs.reset p i := by
  fin_cases i <;> rfl

@[simp] theorem resetWith_st (i : InstId) : (State.resetWith p prog).st i = .disabled :=
  congrArg InstRegs.st (resetWith_insts p prog i)

@[simp] theorem resetWith_pin (i : InstId) : (State.resetWith p prog).pin i = p.pinInit[i] :=
  congrArg InstRegs.pin (resetWith_insts p prog i)

@[simp] theorem resetWith_tmo (i : InstId) : (State.resetWith p prog).tmo i = p.timeoutInit :=
  congrArg InstRegs.tmo (resetWith_insts p prog i)

theorem prevLevel_resetWith {pin : PinId} (h : pin.toNat < p.nPins) :
    prevLevel (State.resetWith p prog) pin = p.pullLevel := by
  simp [prevLevel, State.resetWith, h]

theorem bufferInv_resetWith : BufferInv (State.resetWith p prog) :=
  ⟨rfl, rfl, fun k hk => absurd hk (Nat.not_lt_zero k.val)⟩

theorem enabledInv_resetWith : EnabledInv (State.resetWith p prog) := by
  refine ⟨fun i hreg => ?_, fun i hst => absurd (resetWith_st p prog i) hst,
    fun i j _ hst => absurd (resetWith_st p prog i) hst, List.length_replicate⟩
  cases hreg

theorem transmitInv_resetWith : TransmitInv (State.resetWith p prog) := by
  refine ⟨fun i => ?_, fun g hg => ?_, fun hbusy => absurd hbusy Bool.false_ne_true, fun _ => ⟨rfl, rfl, rfl⟩⟩
  · rw [resetWith_st]
    exact ⟨LineState.noConfusion, fun ⟨hbusy, _⟩ => absurd hbusy Bool.false_ne_true⟩
  · cases hg

theorem lineInv_resetWith (hok : p.ok) : LineInv (State.resetWith p prog) :=
  ⟨hok, enabledInv_resetWith p prog,
    ⟨fun hbusy => absurd hbusy Bool.false_ne_true, fun _ => ⟨rfl, rfl⟩⟩, transmitInv_resetWith p prog⟩

theorem samplingInv_resetWith : SamplingInv (State.resetWith p prog) := fun hbusy =>
  absurd hbusy Bool.false_ne_true

theorem hostInv_resetWith (hprog : prog.length < 2 ^ 32) : HostInv (State.resetWith p prog) :=
  ⟨⟨hprog, Nat.zero_le _⟩, fun hbusy => absurd hbusy Bool.false_ne_true, rfl, fun _ => ⟨rfl, rfl⟩,
    fun hfault => absurd rfl hfault⟩

end

/-- Settles O50: an instance's registers by the lemmas above, each other register as reset writes it. -/
theorem resetValues : Obligations.ResetValues := by
  intro p prog s
  refine ⟨fun i => ⟨resetWith_st p prog i, resetWith_pin p prog i, resetWith_tmo p prog i, rfl, ?_, ?_⟩,
    rfl, fun _ => rfl, rfl, rfl, rfl, rfl, rfl, rfl, rfl, rfl, rfl, rfl, rfl, rfl, List.length_replicate,
    fun _ => prevLevel_resetWith p prog, rfl, rfl, rfl, rfl, rfl, rfl, rfl⟩
  · simp [s, drives]
  · simp [s, txen, drives]

/-- Settles O51: at reset nothing is enabled, held, received, sent or recorded. -/
theorem resetMeetsTheInvariants : Obligations.ResetMeetsTheInvariants :=
  ⟨fun p prog hok hprog => ⟨bufferInv_resetWith p prog, lineInv_resetWith p prog hok, samplingInv_resetWith p prog,
    hostInv_resetWith p prog hprog⟩, Config.params, [], by decide, rfl⟩

end Sys2Proof.Machine
end
